-- ==== Sys2Proof/Word.lean ====
section
/-! DEFINITION. The machine's one data width (00_scope.md R1, R2). -/

namespace Sys2Proof

/-- A Word: an unsigned 16-bit integer (00_scope.md R1). Every register, cell and address is one. Its `+` and `-`
wrap modulo 65536, which is the spec's `+w` and `-w`. -/
abbrev Word := BitVec 16

/-- A byte. Bytes exist only at the boundary to the host, in a program image (20_memory.md R33, R34). -/
abbrev Byte := BitVec 8

end Sys2Proof
end

