-- ==== Sys2Proof/Config.lean ====
section
/-! DEFINITION. The fixed sizes of the hardware and the three parameters that the spec leaves open
(00_scope.md section 4, R6). Which value of the parameters the machine runs with is chosen in Machine/Params.lean. -/

namespace Sys2Proof.Config

/-- The number of memory cells (10_state.md R26). -/
def memWords : Nat := 65536

/-- First cell of the display region (20_memory.md R38). -/
def displayBase : Nat := 0x8000

/-- Columns of the display region (20_memory.md R38). -/
def displayColumns : Nat := 80

/-- Rows of the display region (20_memory.md R38). -/
def displayRows : Nat := 25

/-- DEST_O_ORDER: which write lands last when the destination of ADD, SUB, MUL, DIV, SHL or SHR is the O register
(42_basic_alu.md R123). -/
inductive DestOOrder where
  /-- the result first, then the carry, borrow or high bits (the spec's default) -/
  | resultThenO
  /-- the carry, borrow or high bits first, then the result -/
  | oThenResult
  deriving DecidableEq, Repr

/-- The parameters that the spec names and leaves open (00_scope.md section 4, R6). -/
structure Params where
  /-- JSR_SP_STEP: what JSR adds to SP before it stores the return address (44_extended.md R140, R141) -/
  jsrSpStep : Word
  /-- DEST_O_ORDER (42_basic_alu.md R123) -/
  destOOrder : DestOOrder
  /-- DISASM_PLACEHOLDER: the disassembler's token for an unknown opcode (45_disassembler.md R158) -/
  disasmPlaceholder : String
  deriving DecidableEq, Repr

/-- The default that the spec gives each parameter (00_scope.md section 4; 92_eei_decisions.md D9, D10, D21). -/
def specDefault : Params :=
  { jsrSpStep := 0xFFFF, destOOrder := .resultThenO, disasmPlaceholder := "???" }

end Sys2Proof.Config
end

