-- ==== Sys2Proof/Syntax.lean ====
section
/-! DEFINITION. The instructions as syntax: one constructor per row of spec/opcode_table.json, operands with the
extra word they carry (30_encoding.md R50 to R60). -/

namespace Sys2Proof

/-- The eight general registers, in the order of their numbers 0 to 7 (10_state.md R11). -/
inductive Reg where
  | a | b | c | x | y | z | i | j
  deriving DecidableEq, Repr

/-- An operand: what a 6-bit operand code means (30_encoding.md R55), together with its extra word where the code
consumes one (R57). -/
inductive Operand where
  /-- codes 0 to 7, register direct (41_operand_resolver.md R95) -/
  | reg (r : Reg)
  /-- codes 8 to 15, register indirect (R96) -/
  | ind (r : Reg)
  /-- codes 16 to 23, register indirect plus the extra word (R97) -/
  | indOff (r : Reg) (k : Word)
  /-- code 24, POP (R98) -/
  | pop
  /-- code 25, PEEK (R99) -/
  | peek
  /-- code 26, PUSH (R100) -/
  | push
  /-- code 27, the register SP (R102) -/
  | sp
  /-- code 28, the register PC (R103) -/
  | pc
  /-- code 29, the register O (R104) -/
  | o
  /-- code 30, the cell that the extra word addresses (R105) -/
  | nw (k : Word)
  /-- code 31, the extra word as a literal (R106) -/
  | lit (k : Word)
  /-- codes 32 to 63, a literal of 0 to 31 inside the code (R107). The value is a Word, as the resolver gives it.
  WellFormed says that it is at most 31 -/
  | small (v : Word)
  deriving DecidableEq, Repr

/-- The instructions: fifteen basic ones with destination `a` and source `b`, JSR, and the 63 unknown extended
opcodes, each a row of the opcode table with an operand that still counts for the length (30_encoding.md R59, R60,
R62). -/
inductive Instr where
  /-- SET a, b: a ← b (42_basic_alu.md R110) -/
  | set (a b : Operand)
  /-- ADD a, b: a ← a + b (R111) -/
  | add (a b : Operand)
  /-- SUB a, b: a ← a − b (R112) -/
  | sub (a b : Operand)
  /-- MUL a, b: a ← a × b (R113) -/
  | mul (a b : Operand)
  /-- DIV a, b: a ← a ÷ b (R114) -/
  | div (a b : Operand)
  /-- MOD a, b: a ← a mod b (R115) -/
  | mod (a b : Operand)
  /-- SHL a, b: a ← a shifted left by b (R116) -/
  | shl (a b : Operand)
  /-- SHR a, b: a ← a shifted right by b (R117) -/
  | shr (a b : Operand)
  /-- AND a, b: a ← a and b (R118) -/
  | and (a b : Operand)
  /-- BOR a, b: a ← a or b (R119) -/
  | bor (a b : Operand)
  /-- XOR a, b: a ← a exclusive or b (R120) -/
  | xor (a b : Operand)
  /-- IFE a, b: perform the next instruction only if a = b (43_conditional.md R131) -/
  | ife (a b : Operand)
  /-- IFN a, b: … only if a ≠ b (R132) -/
  | ifn (a b : Operand)
  /-- IFG a, b: … only if a > b (R133) -/
  | ifg (a b : Operand)
  /-- IFB a, b: … only if a and b share a set bit (R134) -/
  | ifb (a b : Operand)
  /-- JSR a: store the return address on the stack, jump to a (44_extended.md R140) -/
  | jsr (a : Operand)
  -- the 63 unknown extended opcodes (30_encoding.md R62; 60_exceptions.md R170), the opcode in hexadecimal
  | unknownX00 (a : Operand)
  | unknownX02 (a : Operand)
  | unknownX03 (a : Operand)
  | unknownX04 (a : Operand)
  | unknownX05 (a : Operand)
  | unknownX06 (a : Operand)
  | unknownX07 (a : Operand)
  | unknownX08 (a : Operand)
  | unknownX09 (a : Operand)
  | unknownX0A (a : Operand)
  | unknownX0B (a : Operand)
  | unknownX0C (a : Operand)
  | unknownX0D (a : Operand)
  | unknownX0E (a : Operand)
  | unknownX0F (a : Operand)
  | unknownX10 (a : Operand)
  | unknownX11 (a : Operand)
  | unknownX12 (a : Operand)
  | unknownX13 (a : Operand)
  | unknownX14 (a : Operand)
  | unknownX15 (a : Operand)
  | unknownX16 (a : Operand)
  | unknownX17 (a : Operand)
  | unknownX18 (a : Operand)
  | unknownX19 (a : Operand)
  | unknownX1A (a : Operand)
  | unknownX1B (a : Operand)
  | unknownX1C (a : Operand)
  | unknownX1D (a : Operand)
  | unknownX1E (a : Operand)
  | unknownX1F (a : Operand)
  | unknownX20 (a : Operand)
  | unknownX21 (a : Operand)
  | unknownX22 (a : Operand)
  | unknownX23 (a : Operand)
  | unknownX24 (a : Operand)
  | unknownX25 (a : Operand)
  | unknownX26 (a : Operand)
  | unknownX27 (a : Operand)
  | unknownX28 (a : Operand)
  | unknownX29 (a : Operand)
  | unknownX2A (a : Operand)
  | unknownX2B (a : Operand)
  | unknownX2C (a : Operand)
  | unknownX2D (a : Operand)
  | unknownX2E (a : Operand)
  | unknownX2F (a : Operand)
  | unknownX30 (a : Operand)
  | unknownX31 (a : Operand)
  | unknownX32 (a : Operand)
  | unknownX33 (a : Operand)
  | unknownX34 (a : Operand)
  | unknownX35 (a : Operand)
  | unknownX36 (a : Operand)
  | unknownX37 (a : Operand)
  | unknownX38 (a : Operand)
  | unknownX39 (a : Operand)
  | unknownX3A (a : Operand)
  | unknownX3B (a : Operand)
  | unknownX3C (a : Operand)
  | unknownX3D (a : Operand)
  | unknownX3E (a : Operand)
  | unknownX3F (a : Operand)
  deriving DecidableEq, Repr

end Sys2Proof
end

