-- ==== Sys2Proof/Machine/State.lean ====
section
/-! DEFINITION. The state of the machine as plain data (10_state.md R10), the reasons a step can stop, and the state
after reset (70_reset_and_hazards.md R190). -/

namespace Sys2Proof.Machine

/-- The eight general registers A B C X Y Z I J, each one Word (10_state.md R11). -/
structure Regs where
  a : Word
  b : Word
  c : Word
  x : Word
  y : Word
  z : Word
  i : Word
  j : Word
  deriving DecidableEq, Repr

/-- Memory: (address, word) pairs, addresses strictly rising, none holding the word that an unlisted address reads as
(`Memory.wf`). The cell is the word, because the address unit is the word and nothing smaller can be addressed
(20_memory.md R30, R33): log 11. -/
abbrev Memory := List (Nat × Word)

/-- What an address reads as that the memory does not list: every cell resets to 0 (10_state.md R13, R26). -/
def Memory.unlisted : Word := 0

/-- The canonical form from an address on: addresses rise strictly and stay below the memory's size (10_state.md
R26), and no entry holds the word that an unlisted address reads as. -/
def Memory.wfFrom : Nat → Memory → Bool
  | _, [] => true
  | lo, (k, v) :: m =>
    decide (lo ≤ k) && decide (k < Config.memWords) && decide (v ≠ Memory.unlisted) && Memory.wfFrom (k + 1) m

/-- The canonical form of memory: two memories in this form that read alike everywhere are the same list. -/
def Memory.wf (m : Memory) : Bool := Memory.wfFrom 0 m

/-- The complete architectural state (10_state.md R10). -/
structure State where
  /-- the eight general registers (10_state.md R11) -/
  regs : Regs
  /-- PC: between steps, the address of the next instruction word (10_state.md R14) -/
  pc : Word
  /-- SP, the stack pointer (10_state.md R19) -/
  sp : Word
  /-- O, the overflow register (10_state.md R21) -/
  o : Word
  /-- the skip flag (10_state.md R23) -/
  skip : Bool
  /-- the memory of 65536 words (10_state.md R26) -/
  mem : Memory
  deriving DecidableEq, Repr

/-- The abnormal outcome of a step. -/
inductive Fault where
  /-- Fatal(UnknownOpcode): raised by a step that is not skipping on an extended word whose opcode is not 0x01, with
  the address of the word and the word (60_exceptions.md R170). The state is the one before the step (R172). Safe: the
  spec itself ends the run here (R174). -/
  | unknownOpcode (pc word : Word)
  deriving DecidableEq, Repr

/-- Why the model gives no answer. No step of this machine is refused (60_exceptions.md R184). -/
inductive Refusal where
  /-- An instruction without a meaning, by its mnemonic. No arm of `exec` answers it. Safe: nothing is claimed. -/
  | notModelled (mnemonic : String)
  /-- Raised by the host's image load alone, on an image of more than 65536 words, of which the spec says nothing
  (91_not_in_source.md N16; log 15). Safe: nothing is claimed. -/
  | imageTooLong
  deriving DecidableEq, Repr

/-- The outcome of a step of this machine. -/
abbrev Result := Host.Outcome State Fault Refusal

/-- The state after reset (70_reset_and_hazards.md R190; 10_state.md section 10): everything 0 but SP. -/
def State.reset : State :=
  { regs := { a := 0, b := 0, c := 0, x := 0, y := 0, z := 0, i := 0, j := 0 }
    pc := 0
    sp := 0xFFFF
    o := 0
    skip := false
    mem := [] }

end Sys2Proof.Machine
end

