-- ==== Sys2Proof/Machine/Flags.lean ====
section
/-! DEFINITION. The value each basic instruction computes, the value it leaves in the overflow register O, and the
condition each conditional tests. Sums, products, quotients and shifts are over the natural numbers and are reduced
modulo 65536 once, at the end (00_scope.md R1; 42_basic_alu.md; log 8). `va` is the value of a, `vb` that of b. -/

namespace Sys2Proof.Machine

/-- A natural number modulo 65536 (00_scope.md R1). -/
def toWord (n : Nat) : Word := BitVec.ofNat 16 n

/-- ADD: `va + vb` (42_basic_alu.md R111). -/
def addResult (va vb : Word) : Word := toWord (va.toNat + vb.toNat)

/-- ADD's O: 1 if the sum is 65536 or more, else 0 (42_basic_alu.md R111). -/
def addO (va vb : Word) : Word := if va.toNat + vb.toNat ≥ 65536 then 1 else 0

/-- SUB: `va -w vb` (42_basic_alu.md R112). -/
def subResult (va vb : Word) : Word := va - vb

/-- SUB's O: 0xFFFF if `va < vb`, else 0 (42_basic_alu.md R112). -/
def subO (va vb : Word) : Word := if va.toNat < vb.toNat then 0xFFFF else 0

/-- MUL: the low word of the product (42_basic_alu.md R113). -/
def mulResult (va vb : Word) : Word := toWord (va.toNat * vb.toNat)

/-- MUL's O: the high word of the product (42_basic_alu.md R113). -/
def mulO (va vb : Word) : Word := toWord ((va.toNat * vb.toNat) >>> 16)

/-- DIV: the quotient rounded toward zero, 0 for a zero divisor (42_basic_alu.md R114). -/
def divResult (va vb : Word) : Word := if vb.toNat = 0 then 0 else toWord (va.toNat / vb.toNat)

/-- DIV's O: the first 16 fraction bits of the quotient, 0 for a zero divisor (42_basic_alu.md R114). -/
def divO (va vb : Word) : Word := if vb.toNat = 0 then 0 else toWord ((va.toNat <<< 16) / vb.toNat)

/-- MOD: the remainder, 0 for a zero divisor (42_basic_alu.md R115). -/
def modResult (va vb : Word) : Word := if vb.toNat = 0 then 0 else toWord (va.toNat % vb.toNat)

/-- SHL: `va << vb`, the whole of vb being the count (42_basic_alu.md R116). -/
def shlResult (va vb : Word) : Word := toWord (va.toNat <<< vb.toNat)

/-- SHL's O: the bits shifted out (42_basic_alu.md R116). -/
def shlO (va vb : Word) : Word := toWord ((va.toNat <<< vb.toNat) >>> 16)

/-- SHR: `va >> vb`, zeros entering at the top, the whole of vb being the count (42_basic_alu.md R117). -/
def shrResult (va vb : Word) : Word := toWord (va.toNat >>> vb.toNat)

/-- SHR's O: the bits shifted out, left-aligned (42_basic_alu.md R117). -/
def shrO (va vb : Word) : Word := toWord ((va.toNat <<< 16) >>> vb.toNat)

/-- AND (42_basic_alu.md R118). -/
def andResult (va vb : Word) : Word := va &&& vb

/-- BOR: inclusive or (42_basic_alu.md R119; log 5). -/
def borResult (va vb : Word) : Word := va ||| vb

/-- XOR (42_basic_alu.md R120). -/
def xorResult (va vb : Word) : Word := va ^^^ vb

/-- IFE's condition: a equals b (43_conditional.md R131; log 5). -/
def ifeCondition (va vb : Word) : Bool := va == vb

/-- IFN's condition: a differs from b (43_conditional.md R132; log 5). -/
def ifnCondition (va vb : Word) : Bool := va != vb

/-- IFG's condition: a is greater than b, unsigned (43_conditional.md R133; log 5). -/
def ifgCondition (va vb : Word) : Bool := decide (va.toNat > vb.toNat)

/-- IFB's condition: a and b have a set bit in common (43_conditional.md R134; log 5). -/
def ifbCondition (va vb : Word) : Bool := va &&& vb != 0

end Sys2Proof.Machine
end

