-- ==== Sys2Proof/WellFormed.lean ====
section
/-! DEFINITION. Which instructions an encoding can stand for. The operand code has six bits, so the only value that
the syntax can hold and no code can carry is a small literal above 31 (30_encoding.md R56 (1)). -/

namespace Sys2Proof

/-- An operand that some operand code encodes: a small literal is at most 31 (30_encoding.md R56). -/
def Operand.wellFormed : Operand → Bool
  | .small v => v.toNat < 32
  | .reg _ | .ind _ | .indOff _ _ | .pop | .peek | .push | .sp | .pc | .o | .nw _ | .lit _ => true

/-- The operands of an instruction, a first (30_encoding.md R52, R53). -/
def Instr.operands : Instr → List Operand
  | .set a b => [a, b]
  | .add a b => [a, b]
  | .sub a b => [a, b]
  | .mul a b => [a, b]
  | .div a b => [a, b]
  | .mod a b => [a, b]
  | .shl a b => [a, b]
  | .shr a b => [a, b]
  | .and a b => [a, b]
  | .bor a b => [a, b]
  | .xor a b => [a, b]
  | .ife a b => [a, b]
  | .ifn a b => [a, b]
  | .ifg a b => [a, b]
  | .ifb a b => [a, b]
  | .jsr a => [a]
  | .unknownX00 a => [a]
  | .unknownX02 a => [a]
  | .unknownX03 a => [a]
  | .unknownX04 a => [a]
  | .unknownX05 a => [a]
  | .unknownX06 a => [a]
  | .unknownX07 a => [a]
  | .unknownX08 a => [a]
  | .unknownX09 a => [a]
  | .unknownX0A a => [a]
  | .unknownX0B a => [a]
  | .unknownX0C a => [a]
  | .unknownX0D a => [a]
  | .unknownX0E a => [a]
  | .unknownX0F a => [a]
  | .unknownX10 a => [a]
  | .unknownX11 a => [a]
  | .unknownX12 a => [a]
  | .unknownX13 a => [a]
  | .unknownX14 a => [a]
  | .unknownX15 a => [a]
  | .unknownX16 a => [a]
  | .unknownX17 a => [a]
  | .unknownX18 a => [a]
  | .unknownX19 a => [a]
  | .unknownX1A a => [a]
  | .unknownX1B a => [a]
  | .unknownX1C a => [a]
  | .unknownX1D a => [a]
  | .unknownX1E a => [a]
  | .unknownX1F a => [a]
  | .unknownX20 a => [a]
  | .unknownX21 a => [a]
  | .unknownX22 a => [a]
  | .unknownX23 a => [a]
  | .unknownX24 a => [a]
  | .unknownX25 a => [a]
  | .unknownX26 a => [a]
  | .unknownX27 a => [a]
  | .unknownX28 a => [a]
  | .unknownX29 a => [a]
  | .unknownX2A a => [a]
  | .unknownX2B a => [a]
  | .unknownX2C a => [a]
  | .unknownX2D a => [a]
  | .unknownX2E a => [a]
  | .unknownX2F a => [a]
  | .unknownX30 a => [a]
  | .unknownX31 a => [a]
  | .unknownX32 a => [a]
  | .unknownX33 a => [a]
  | .unknownX34 a => [a]
  | .unknownX35 a => [a]
  | .unknownX36 a => [a]
  | .unknownX37 a => [a]
  | .unknownX38 a => [a]
  | .unknownX39 a => [a]
  | .unknownX3A a => [a]
  | .unknownX3B a => [a]
  | .unknownX3C a => [a]
  | .unknownX3D a => [a]
  | .unknownX3E a => [a]
  | .unknownX3F a => [a]

/-- An instruction that some word encodes: each of its operands has a code. -/
def Instr.wellFormed (i : Instr) : Bool := i.operands.all Operand.wellFormed

end Sys2Proof
end

