-- ==== Sys2Proof/Decode.lean ====
section
/-! DEFINITION. The decoder and the encoder (30_encoding.md). The positions of the fields and the numbers of the
opcodes are the spec's (R51 to R53, R59, R60), which took them from general knowledge: log 4. -/

namespace Sys2Proof

/-! ## Fields of the instruction word (30_encoding.md R52, R53) -/

/-- `w[3:0]`: the basic opcode, or the sentinel 0 of the extended format (30_encoding.md R51). -/
def opcodeField (w : Word) : BitVec 4 := w.extractLsb' 0 4

/-- `w[9:4]`: operand code a of a basic word, the extended opcode of an extended word (30_encoding.md R52, R53). -/
def middleField (w : Word) : BitVec 6 := w.extractLsb' 4 6

/-- `w[15:10]`: operand code b of a basic word, operand code a of an extended word (30_encoding.md R52, R53). -/
def upperField (w : Word) : BitVec 6 := w.extractLsb' 10 6

/-- A basic word from its fields, `bbbbbbaaaaaaoooo` (30_encoding.md R52). -/
def basicWord (o : BitVec 4) (a b : BitVec 6) : Word := b ++ a ++ o

/-- An extended word from its fields, `aaaaaaxxxxxx0000` (30_encoding.md R53). -/
def extendedWord (x : BitVec 6) (a : BitVec 6) : Word := a ++ x ++ (0 : BitVec 4)

/-! ## Operands (30_encoding.md R55 to R57) -/

/-- The general register with a number, 0 to 7 (10_state.md R11). -/
def Reg.ofNumber (n : Nat) : Reg :=
  match n with
  | 0 => .a | 1 => .b | 2 => .c | 3 => .x | 4 => .y | 5 => .z | 6 => .i | _ => .j

/-- The number of a general register (10_state.md R11). -/
def Reg.number (r : Reg) : Nat :=
  match r with
  | .a => 0 | .b => 1 | .c => 2 | .x => 3 | .y => 4 | .z => 5 | .i => 6 | .j => 7

/-- The operand that a code selects, `k` being the next unread word, which codes 16 to 23, 30 and 31 consume and the
others leave (30_encoding.md R55, R56, R57). All 64 codes are defined. -/
def decodeOperand (code : BitVec 6) (k : Word) : Operand :=
  if code.toNat < 8 then .reg (Reg.ofNumber code.toNat)
  else if code.toNat < 16 then .ind (Reg.ofNumber (code.toNat - 8))
  else if code.toNat < 24 then .indOff (Reg.ofNumber (code.toNat - 16)) k
  else match code.toNat with
    | 24 => .pop
    | 25 => .peek
    | 26 => .push
    | 27 => .sp
    | 28 => .pc
    | 29 => .o
    | 30 => .nw k
    | 31 => .lit k
    | c => .small (BitVec.ofNat 16 (c - 32))

/-- The code of an operand (30_encoding.md R55). -/
def Operand.code (op : Operand) : BitVec 6 :=
  match op with
  | .reg r => BitVec.ofNat 6 r.number
  | .ind r => BitVec.ofNat 6 (8 + r.number)
  | .indOff r _ => BitVec.ofNat 6 (16 + r.number)
  | .pop => 24
  | .peek => 25
  | .push => 26
  | .sp => 27
  | .pc => 28
  | .o => 29
  | .nw _ => 30
  | .lit _ => 31
  | .small v => BitVec.ofNat 6 (32 + v.toNat % 32)

/-- The extra word that an operand consumes, if any (30_encoding.md R57). -/
def Operand.extraWords (op : Operand) : List Word :=
  match op with
  | .indOff _ k => [k]
  | .nw k => [k]
  | .lit k => [k]
  | .reg _ | .ind _ | .pop | .peek | .push | .sp | .pc | .o | .small _ => []

/-- `extra(c)` of an operand: how many extra words it consumes, 0 or 1 (30_encoding.md R54). -/
def Operand.extra (op : Operand) : Nat := op.extraWords.length

/-! ## Instructions -/

/-- The basic instruction with an opcode, 1 to 15 (30_encoding.md R59). The value 0 is the sentinel of the extended
format and is never passed here, so no basic opcode is unknown (R61). -/
def decodeBasic (o : BitVec 4) (a b : Operand) : Instr :=
  match o.toNat with
  | 1 => .set a b
  | 2 => .add a b
  | 3 => .sub a b
  | 4 => .mul a b
  | 5 => .div a b
  | 6 => .mod a b
  | 7 => .shl a b
  | 8 => .shr a b
  | 9 => .and a b
  | 10 => .bor a b
  | 11 => .xor a b
  | 12 => .ife a b
  | 13 => .ifn a b
  | 14 => .ifg a b
  | _ => .ifb a b

/-- The extended instruction with an opcode: JSR is 0x01, the other 63 are unknown (30_encoding.md R60, R62). -/
def decodeExtended (x : BitVec 6) (a : Operand) : Instr :=
  match x.toNat with
  | 0x00 => .unknownX00 a
  | 0x01 => .jsr a
  | 0x02 => .unknownX02 a
  | 0x03 => .unknownX03 a
  | 0x04 => .unknownX04 a
  | 0x05 => .unknownX05 a
  | 0x06 => .unknownX06 a
  | 0x07 => .unknownX07 a
  | 0x08 => .unknownX08 a
  | 0x09 => .unknownX09 a
  | 0x0A => .unknownX0A a
  | 0x0B => .unknownX0B a
  | 0x0C => .unknownX0C a
  | 0x0D => .unknownX0D a
  | 0x0E => .unknownX0E a
  | 0x0F => .unknownX0F a
  | 0x10 => .unknownX10 a
  | 0x11 => .unknownX11 a
  | 0x12 => .unknownX12 a
  | 0x13 => .unknownX13 a
  | 0x14 => .unknownX14 a
  | 0x15 => .unknownX15 a
  | 0x16 => .unknownX16 a
  | 0x17 => .unknownX17 a
  | 0x18 => .unknownX18 a
  | 0x19 => .unknownX19 a
  | 0x1A => .unknownX1A a
  | 0x1B => .unknownX1B a
  | 0x1C => .unknownX1C a
  | 0x1D => .unknownX1D a
  | 0x1E => .unknownX1E a
  | 0x1F => .unknownX1F a
  | 0x20 => .unknownX20 a
  | 0x21 => .unknownX21 a
  | 0x22 => .unknownX22 a
  | 0x23 => .unknownX23 a
  | 0x24 => .unknownX24 a
  | 0x25 => .unknownX25 a
  | 0x26 => .unknownX26 a
  | 0x27 => .unknownX27 a
  | 0x28 => .unknownX28 a
  | 0x29 => .unknownX29 a
  | 0x2A => .unknownX2A a
  | 0x2B => .unknownX2B a
  | 0x2C => .unknownX2C a
  | 0x2D => .unknownX2D a
  | 0x2E => .unknownX2E a
  | 0x2F => .unknownX2F a
  | 0x30 => .unknownX30 a
  | 0x31 => .unknownX31 a
  | 0x32 => .unknownX32 a
  | 0x33 => .unknownX33 a
  | 0x34 => .unknownX34 a
  | 0x35 => .unknownX35 a
  | 0x36 => .unknownX36 a
  | 0x37 => .unknownX37 a
  | 0x38 => .unknownX38 a
  | 0x39 => .unknownX39 a
  | 0x3A => .unknownX3A a
  | 0x3B => .unknownX3B a
  | 0x3C => .unknownX3C a
  | 0x3D => .unknownX3D a
  | 0x3E => .unknownX3E a
  | _ => .unknownX3F a

/-- The instruction that a word and the two words after it encode. Every word encodes one (30_encoding.md R61, R62).
Operand a takes its extra word first (R58). -/
def decodeTriple (w k₁ k₂ : Word) : Instr :=
  if opcodeField w = 0 then
    decodeExtended (middleField w) (decodeOperand (upperField w) k₁)
  else
    let a := decodeOperand (middleField w) k₁
    let b := decodeOperand (upperField w) (if a.extra = 0 then k₁ else k₂)
    decodeBasic (opcodeField w) a b

/-- The length of an instruction in words (30_encoding.md R54). -/
def Instr.length (i : Instr) : Nat := 1 + (i.operands.map Operand.extra).sum

/-- Why a list of words holds no instruction: it is too short. No word is rejected for its value, since every word
is an instruction word (30_encoding.md R61, R62). -/
inductive DecodeError where
  /-- the list is empty -/
  | noInstructionWord
  /-- the list ends before an extra word that an operand code consumes (30_encoding.md R57) -/
  | missingExtraWord
  deriving DecidableEq, Repr

/-- The instruction at the head of a list of words and the words after it, or the reason there is none. -/
def decode (ws : List Word) : Except DecodeError (Instr × List Word) :=
  match ws with
  | [] => .error .noInstructionWord
  | w :: rest =>
    let i := decodeTriple w (rest.getD 0 0) (rest.getD 1 0)
    if rest.length + 1 < i.length then .error .missingExtraWord
    else .ok (i, rest.drop (i.length - 1))

/-- The first word of an instruction (30_encoding.md R52, R53, R59, R60). -/
def Instr.firstWord (i : Instr) : Word :=
  match i with
  | .set a b => basicWord 1 a.code b.code
  | .add a b => basicWord 2 a.code b.code
  | .sub a b => basicWord 3 a.code b.code
  | .mul a b => basicWord 4 a.code b.code
  | .div a b => basicWord 5 a.code b.code
  | .mod a b => basicWord 6 a.code b.code
  | .shl a b => basicWord 7 a.code b.code
  | .shr a b => basicWord 8 a.code b.code
  | .and a b => basicWord 9 a.code b.code
  | .bor a b => basicWord 10 a.code b.code
  | .xor a b => basicWord 11 a.code b.code
  | .ife a b => basicWord 12 a.code b.code
  | .ifn a b => basicWord 13 a.code b.code
  | .ifg a b => basicWord 14 a.code b.code
  | .ifb a b => basicWord 15 a.code b.code
  | .jsr a => extendedWord 0x01 a.code
  | .unknownX00 a => extendedWord 0x00 a.code
  | .unknownX02 a => extendedWord 0x02 a.code
  | .unknownX03 a => extendedWord 0x03 a.code
  | .unknownX04 a => extendedWord 0x04 a.code
  | .unknownX05 a => extendedWord 0x05 a.code
  | .unknownX06 a => extendedWord 0x06 a.code
  | .unknownX07 a => extendedWord 0x07 a.code
  | .unknownX08 a => extendedWord 0x08 a.code
  | .unknownX09 a => extendedWord 0x09 a.code
  | .unknownX0A a => extendedWord 0x0A a.code
  | .unknownX0B a => extendedWord 0x0B a.code
  | .unknownX0C a => extendedWord 0x0C a.code
  | .unknownX0D a => extendedWord 0x0D a.code
  | .unknownX0E a => extendedWord 0x0E a.code
  | .unknownX0F a => extendedWord 0x0F a.code
  | .unknownX10 a => extendedWord 0x10 a.code
  | .unknownX11 a => extendedWord 0x11 a.code
  | .unknownX12 a => extendedWord 0x12 a.code
  | .unknownX13 a => extendedWord 0x13 a.code
  | .unknownX14 a => extendedWord 0x14 a.code
  | .unknownX15 a => extendedWord 0x15 a.code
  | .unknownX16 a => extendedWord 0x16 a.code
  | .unknownX17 a => extendedWord 0x17 a.code
  | .unknownX18 a => extendedWord 0x18 a.code
  | .unknownX19 a => extendedWord 0x19 a.code
  | .unknownX1A a => extendedWord 0x1A a.code
  | .unknownX1B a => extendedWord 0x1B a.code
  | .unknownX1C a => extendedWord 0x1C a.code
  | .unknownX1D a => extendedWord 0x1D a.code
  | .unknownX1E a => extendedWord 0x1E a.code
  | .unknownX1F a => extendedWord 0x1F a.code
  | .unknownX20 a => extendedWord 0x20 a.code
  | .unknownX21 a => extendedWord 0x21 a.code
  | .unknownX22 a => extendedWord 0x22 a.code
  | .unknownX23 a => extendedWord 0x23 a.code
  | .unknownX24 a => extendedWord 0x24 a.code
  | .unknownX25 a => extendedWord 0x25 a.code
  | .unknownX26 a => extendedWord 0x26 a.code
  | .unknownX27 a => extendedWord 0x27 a.code
  | .unknownX28 a => extendedWord 0x28 a.code
  | .unknownX29 a => extendedWord 0x29 a.code
  | .unknownX2A a => extendedWord 0x2A a.code
  | .unknownX2B a => extendedWord 0x2B a.code
  | .unknownX2C a => extendedWord 0x2C a.code
  | .unknownX2D a => extendedWord 0x2D a.code
  | .unknownX2E a => extendedWord 0x2E a.code
  | .unknownX2F a => extendedWord 0x2F a.code
  | .unknownX30 a => extendedWord 0x30 a.code
  | .unknownX31 a => extendedWord 0x31 a.code
  | .unknownX32 a => extendedWord 0x32 a.code
  | .unknownX33 a => extendedWord 0x33 a.code
  | .unknownX34 a => extendedWord 0x34 a.code
  | .unknownX35 a => extendedWord 0x35 a.code
  | .unknownX36 a => extendedWord 0x36 a.code
  | .unknownX37 a => extendedWord 0x37 a.code
  | .unknownX38 a => extendedWord 0x38 a.code
  | .unknownX39 a => extendedWord 0x39 a.code
  | .unknownX3A a => extendedWord 0x3A a.code
  | .unknownX3B a => extendedWord 0x3B a.code
  | .unknownX3C a => extendedWord 0x3C a.code
  | .unknownX3D a => extendedWord 0x3D a.code
  | .unknownX3E a => extendedWord 0x3E a.code
  | .unknownX3F a => extendedWord 0x3F a.code

/-- The words of an instruction: its first word, then a's extra word, then b's (30_encoding.md R50, R58). -/
def encode (i : Instr) : List Word := i.firstWord :: i.operands.flatMap Operand.extraWords

/-- The 63 unknown extended opcodes with their constructors (30_encoding.md R62). -/
def unknownOpcodes : List (BitVec 6 × (Operand → Instr)) :=
  [(0x00, .unknownX00), (0x02, .unknownX02), (0x03, .unknownX03), (0x04, .unknownX04),
   (0x05, .unknownX05), (0x06, .unknownX06), (0x07, .unknownX07), (0x08, .unknownX08),
   (0x09, .unknownX09), (0x0A, .unknownX0A), (0x0B, .unknownX0B), (0x0C, .unknownX0C),
   (0x0D, .unknownX0D), (0x0E, .unknownX0E), (0x0F, .unknownX0F), (0x10, .unknownX10),
   (0x11, .unknownX11), (0x12, .unknownX12), (0x13, .unknownX13), (0x14, .unknownX14),
   (0x15, .unknownX15), (0x16, .unknownX16), (0x17, .unknownX17), (0x18, .unknownX18),
   (0x19, .unknownX19), (0x1A, .unknownX1A), (0x1B, .unknownX1B), (0x1C, .unknownX1C),
   (0x1D, .unknownX1D), (0x1E, .unknownX1E), (0x1F, .unknownX1F), (0x20, .unknownX20),
   (0x21, .unknownX21), (0x22, .unknownX22), (0x23, .unknownX23), (0x24, .unknownX24),
   (0x25, .unknownX25), (0x26, .unknownX26), (0x27, .unknownX27), (0x28, .unknownX28),
   (0x29, .unknownX29), (0x2A, .unknownX2A), (0x2B, .unknownX2B), (0x2C, .unknownX2C),
   (0x2D, .unknownX2D), (0x2E, .unknownX2E), (0x2F, .unknownX2F), (0x30, .unknownX30),
   (0x31, .unknownX31), (0x32, .unknownX32), (0x33, .unknownX33), (0x34, .unknownX34),
   (0x35, .unknownX35), (0x36, .unknownX36), (0x37, .unknownX37), (0x38, .unknownX38),
   (0x39, .unknownX39), (0x3A, .unknownX3A), (0x3B, .unknownX3B), (0x3C, .unknownX3C),
   (0x3D, .unknownX3D), (0x3E, .unknownX3E), (0x3F, .unknownX3F)]

/-- The three words of an instruction given as one number: bit 0 is the least significant bit of the first word, each
later word's bits count on from the word before, and the bits at and above `nbits` are taken as 0, so that an operand
word that the table gives no bits is 0. -/
def tableWords (nbits w : Nat) : List Word :=
  let v := w % 2 ^ nbits
  [BitVec.ofNat 16 v, BitVec.ofNat 16 (v / 2 ^ 16), BitVec.ofNat 16 (v / 2 ^ 32)]

/-- The instruction that the decoder reads from an instruction given as one number. -/
def decodeTableWord (nbits w : Nat) : Option Instr :=
  match decode (tableWords nbits w) with
  | .ok (i, _) => some i
  | .error _ => none

end Sys2Proof
end

