-- ==== Sys2Proof/Machine/Ops.lean ====
section
/-! DEFINITION. The named operations over memory and registers, the address of the word after an instruction, and the
one exception, Fatal(UnknownOpcode). -/

namespace Sys2Proof.Machine

/-! ## Memory (20_memory.md R31) -/

/-- The word at an address: the listed one, else what an unlisted address reads as. -/
def Memory.lookup : Memory → Nat → Word
  | [], _ => Memory.unlisted
  | (k, v) :: m, a => if a = k then v else Memory.lookup m a

/-- The memory with a word stored at an address, in canonical form: storing what an unlisted address reads as removes
the entry. -/
def Memory.store : Memory → Nat → Word → Memory
  | [], a, w => if w = Memory.unlisted then [] else [(a, w)]
  | (k, v) :: m, a, w =>
    if a < k then (if w = Memory.unlisted then (k, v) :: m else (a, w) :: (k, v) :: m)
    else if a = k then (if w = Memory.unlisted then m else (a, w) :: m)
    else (k, v) :: Memory.store m a w

/-- `MemRead(addr, 1)` of a memory (20_memory.md R31). It never fails. -/
def Memory.read (m : Memory) (a : Word) : Word := Memory.lookup m a.toNat

/-- `MemWrite(addr, 1, v)` of a memory (20_memory.md R31). It never fails. -/
def Memory.write (m : Memory) (a : Word) (v : Word) : Memory := Memory.store m a.toNat v

/-! ## Registers (10_state.md R11, R12) -/

/-- `x[i]`: read a general register. -/
def Regs.get (rs : Regs) (r : Reg) : Word :=
  match r with
  | .a => rs.a | .b => rs.b | .c => rs.c | .x => rs.x | .y => rs.y | .z => rs.z | .i => rs.i | .j => rs.j

/-- `x[i] <- v`: write a general register. None is hardwired (10_state.md R12). -/
def Regs.set (rs : Regs) (r : Reg) (v : Word) : Regs :=
  match r with
  | .a => { rs with a := v }
  | .b => { rs with b := v }
  | .c => { rs with c := v }
  | .x => { rs with x := v }
  | .y => { rs with y := v }
  | .z => { rs with z := v }
  | .i => { rs with i := v }
  | .j => { rs with j := v }

/-! ## The state's pieces, each read and written through one operation (00_scope.md section 5) -/

/-- Read a general register. -/
def State.reg (s : State) (r : Reg) : Word := s.regs.get r

/-- Write a general register. -/
def State.setReg (s : State) (r : Reg) (v : Word) : State := { s with regs := s.regs.set r v }

/-- Write PC (10_state.md R18). -/
def State.setPc (s : State) (v : Word) : State := { s with pc := v }

/-- Write SP (10_state.md R19). -/
def State.setSp (s : State) (v : Word) : State := { s with sp := v }

/-- Write O (10_state.md R21). -/
def State.setO (s : State) (v : Word) : State := { s with o := v }

/-- Write the skip flag (10_state.md R23). -/
def State.setSkip (s : State) (v : Bool) : State := { s with skip := v }

/-- `MemRead(addr, 1)` (20_memory.md R31). -/
def State.readMem (s : State) (a : Word) : Word := s.mem.read a

/-- `MemWrite(addr, 1, v)`: sets that cell and changes nothing else (20_memory.md R31). -/
def State.writeMem (s : State) (a : Word) (v : Word) : State := { s with mem := s.mem.write a v }

/-- Store words at consecutive addresses, modulo 65536. -/
def State.writeWords (s : State) (a : Word) : List Word → State
  | [] => s
  | w :: ws => State.writeWords (s.writeMem a w) (a + 1) ws

/-! ## Advancing PC (10_state.md R15, R17; 40_fetch_decode_step.md R74) -/

/-- The address of the word after an instruction of `n` words at PC, modulo 65536 (10_state.md R15, R17). -/
def State.nextPc (s : State) (n : Nat) : Word := s.pc + BitVec.ofNat 16 n

/-! ## The exception (60_exceptions.md) -/

/-- Taking the one exception: Fatal(UnknownOpcode, pc, word). It saves nothing, changes no mode and enters no handler
(60_exceptions.md R174), so it is the fault outcome and not a state. The faulted state is the one before the step
(R172), so PC is the address of the word. There is no return from it (R175). -/
def raiseFatal (word : Word) (s : State) : Result := .fault (.unknownOpcode s.pc word)

end Sys2Proof.Machine
end

