-- ==== Sys2Proof/Machine/Operands.lean ====
section
/-! DEFINITION. The operand resolver: accessors, their three capabilities, and the accessor of each operand form
(41_operand_resolver.md R90 to R108). The extra word that an operand code consumes is already in the operand, put there
by the decoder. -/

namespace Sys2Proof.Machine

/-- The target of an accessor (41_operand_resolver.md R91). A `mem` target carries the address fixed at resolution, a
register target the register and not its value. -/
inductive Accessor where
  | reg (r : Reg)
  | sp
  | pc
  | o
  | mem (addr : Word)
  | lit (v : Word)
  deriving DecidableEq, Repr

/-- The pre-effect of an accessor (41_operand_resolver.md R91, R94). -/
inductive PreEffect where
  | none
  | incSp
  | decSp
  deriving DecidableEq, Repr

/-- What an operand resolves to (41_operand_resolver.md R91). -/
structure Resolved where
  acc : Accessor
  pre : PreEffect
  deriving DecidableEq, Repr

/-- `Resolve`: the accessor and the pre-effect of an operand, from the registers and the SP of the state it is given.
It writes nothing (41_operand_resolver.md R90, R95 to R107). -/
def resolve (op : Operand) (s : State) : Resolved :=
  match op with
  | .reg r => { acc := .reg r, pre := .none }                            -- R95
  | .ind r => { acc := .mem (s.reg r), pre := .none }                    -- R96
  | .indOff r k => { acc := .mem (s.reg r + k), pre := .none }           -- R97
  | .pop => { acc := .mem s.sp, pre := .incSp }                          -- R98
  | .peek => { acc := .mem s.sp, pre := .none }                          -- R99
  | .push => { acc := .mem (s.sp - 1), pre := .decSp }                   -- R100
  | .sp => { acc := .sp, pre := .none }                                  -- R102
  | .pc => { acc := .pc, pre := .none }                                  -- R103
  | .o => { acc := .o, pre := .none }                                    -- R104
  | .nw k => { acc := .mem k, pre := .none }                             -- R105
  | .lit k => { acc := .lit k, pre := .none }                            -- R106
  | .small v => { acc := .lit v, pre := .none }                          -- R107

/-- `Read(acc)`: the value at the time of the read. It changes nothing (41_operand_resolver.md R92). -/
def Accessor.read (acc : Accessor) (s : State) : Word :=
  match acc with
  | .reg r => s.reg r
  | .sp => s.sp
  | .pc => s.pc
  | .o => s.o
  | .mem addr => s.readMem addr
  | .lit v => v

/-- `Write(acc, v)`. A write to a literal is discarded (41_operand_resolver.md R93). -/
def Accessor.write (acc : Accessor) (v : Word) (s : State) : State :=
  match acc with
  | .reg r => s.setReg r v
  | .sp => s.setSp v
  | .pc => s.setPc v
  | .o => s.setO v
  | .mem addr => s.writeMem addr v
  | .lit _ => s

/-- `PreEffect(acc)`: SP up by one for POP, down by one for PUSH, modulo 65536 (41_operand_resolver.md R94). -/
def firePreEffect (p : PreEffect) (s : State) : State :=
  match p with
  | .none => s
  | .incSp => s.setSp (s.sp + 1)
  | .decSp => s.setSp (s.sp - 1)

/-! ## Stages 5 and 6 of the step, for two operands and for one (40_fetch_decode_step.md R70, R74, R75) -/

/-- PC past a basic instruction and its extra words, then a's pre-effect, then b's. Both operands are resolved in the
state before, so both see the same SP (40_fetch_decode_step.md R73). -/
def prepareBasic (a b : Operand) (s : State) : State :=
  firePreEffect (resolve b s).pre
    (firePreEffect (resolve a s).pre (s.setPc (s.nextPc (1 + a.extra + b.extra))))

/-- PC past an extended instruction and its extra word, then a's pre-effect. -/
def prepareExtended (a : Operand) (s : State) : State :=
  firePreEffect (resolve a s).pre (s.setPc (s.nextPc (1 + a.extra)))

end Sys2Proof.Machine
end

