-- ==== Sys2Proof/Machine/Params.lean ====
section
/-! DEFINITION. The value at which the machine runs each parameter that the spec leaves open (00_scope.md R6). -/

namespace Sys2Proof.Machine

/-- The parameters of this machine: the spec's defaults (00_scope.md section 4; log 1, 2, 3). DESIGN CHOICE, unsafe:
a machine with another value behaves otherwise. Machine/Parameters.lean has the machine at every value. -/
def params : Config.Params := Config.specDefault

end Sys2Proof.Machine
end

