-- ==== Sys2Proof/Machine/Basic.lean ====
section
/-! DEFINITION. The basic instructions SET to XOR, performed (42_basic_alu.md R110 to R124). Each has the spec's shape:
resolve both operands, advance PC, fire the pre-effects, read both values, then write. The step has already seen that
the skip flag is off. -/

namespace Sys2Proof.Machine

/-- An instruction that only writes a result to its destination: O and the skip flag stay (42_basic_alu.md section 0). -/
def writeResult (result : Word → Word → Word) (a b : Operand) (s : State) : State :=
  let accA := (resolve a s).acc
  let accB := (resolve b s).acc
  let s₁ := prepareBasic a b s
  accA.write (result (accA.read s₁) (accB.read s₁)) s₁

/-- An instruction that writes a result to its destination and a side value to O. O is written even if the destination
is a literal (42_basic_alu.md R122). Where the destination is O itself, the parameter says which write lands last
(R123). -/
def writeResultAndO (p : Config.Params) (result side : Word → Word → Word) (a b : Operand) (s : State) : State :=
  let accA := (resolve a s).acc
  let accB := (resolve b s).acc
  let s₁ := prepareBasic a b s
  let va := accA.read s₁
  let vb := accB.read s₁
  match p.destOOrder with
  | .resultThenO => (accA.write (result va vb) s₁).setO (side va vb)
  | .oThenResult => accA.write (result va vb) (s₁.setO (side va vb))

/-- SET a, b (42_basic_alu.md R110). -/
def execSet (a b : Operand) (s : State) : Result := .next (writeResult (fun _ vb => vb) a b s)

/-- ADD a, b at any value of the parameters (42_basic_alu.md R111, R123). -/
def addWith (p : Config.Params) (a b : Operand) (s : State) : Result :=
  .next (writeResultAndO p addResult addO a b s)

/-- ADD a, b (42_basic_alu.md R111). -/
def execAdd (a b : Operand) (s : State) : Result := addWith params a b s

/-- SUB a, b at any value of the parameters (42_basic_alu.md R112, R123). -/
def subWith (p : Config.Params) (a b : Operand) (s : State) : Result :=
  .next (writeResultAndO p subResult subO a b s)

/-- SUB a, b (42_basic_alu.md R112). -/
def execSub (a b : Operand) (s : State) : Result := subWith params a b s

/-- MUL a, b at any value of the parameters (42_basic_alu.md R113, R123). -/
def mulWith (p : Config.Params) (a b : Operand) (s : State) : Result :=
  .next (writeResultAndO p mulResult mulO a b s)

/-- MUL a, b (42_basic_alu.md R113). -/
def execMul (a b : Operand) (s : State) : Result := mulWith params a b s

/-- DIV a, b at any value of the parameters (42_basic_alu.md R114, R123). -/
def divWith (p : Config.Params) (a b : Operand) (s : State) : Result :=
  .next (writeResultAndO p divResult divO a b s)

/-- DIV a, b (42_basic_alu.md R114). -/
def execDiv (a b : Operand) (s : State) : Result := divWith params a b s

/-- MOD a, b (42_basic_alu.md R115). -/
def execMod (a b : Operand) (s : State) : Result := .next (writeResult modResult a b s)

/-- SHL a, b at any value of the parameters (42_basic_alu.md R116, R123). -/
def shlWith (p : Config.Params) (a b : Operand) (s : State) : Result :=
  .next (writeResultAndO p shlResult shlO a b s)

/-- SHL a, b (42_basic_alu.md R116). -/
def execShl (a b : Operand) (s : State) : Result := shlWith params a b s

/-- SHR a, b at any value of the parameters (42_basic_alu.md R117, R123). -/
def shrWith (p : Config.Params) (a b : Operand) (s : State) : Result :=
  .next (writeResultAndO p shrResult shrO a b s)

/-- SHR a, b (42_basic_alu.md R117). -/
def execShr (a b : Operand) (s : State) : Result := shrWith params a b s

/-- AND a, b (42_basic_alu.md R118). -/
def execAnd (a b : Operand) (s : State) : Result := .next (writeResult andResult a b s)

/-- BOR a, b (42_basic_alu.md R119). -/
def execBor (a b : Operand) (s : State) : Result := .next (writeResult borResult a b s)

/-- XOR a, b (42_basic_alu.md R120). -/
def execXor (a b : Operand) (s : State) : Result := .next (writeResult xorResult a b s)

end Sys2Proof.Machine
end

