-- ==== Sys2Proof/Machine/Conditional.lean ====
section
/-! DEFINITION. The conditional instructions IFE, IFN, IFG, IFB, performed (43_conditional.md R130 to R137). The flag
they set is acted on by the next step. -/

namespace Sys2Proof.Machine

/-- `skip <- not condition`, after the PC advance and the pre-effects. Nothing else is written (43_conditional.md
R130). -/
def testOperands (condition : Word → Word → Bool) (a b : Operand) (s : State) : State :=
  let accA := (resolve a s).acc
  let accB := (resolve b s).acc
  let s₁ := prepareBasic a b s
  s₁.setSkip (!condition (accA.read s₁) (accB.read s₁))

/-- IFE a, b (43_conditional.md R131). -/
def execIfe (a b : Operand) (s : State) : Result := .next (testOperands ifeCondition a b s)

/-- IFN a, b (43_conditional.md R132). -/
def execIfn (a b : Operand) (s : State) : Result := .next (testOperands ifnCondition a b s)

/-- IFG a, b (43_conditional.md R133). -/
def execIfg (a b : Operand) (s : State) : Result := .next (testOperands ifgCondition a b s)

/-- IFB a, b (43_conditional.md R134). -/
def execIfb (a b : Operand) (s : State) : Result := .next (testOperands ifbCondition a b s)

end Sys2Proof.Machine
end

