-- ==== Sys2Proof/Machine/Extended.lean ====
section
/-! DEFINITION. The extended instruction JSR, performed (44_extended.md R140 to R144). -/

namespace Sys2Proof.Machine

/-- The three actions of JSR in their order: move SP by a step, store the return address at the new SP, and only then
read the target, which becomes PC (44_extended.md R140). -/
def callTo (spStep : Word) (target : Accessor) (s : State) : State :=
  let s₁ := s.setSp (s.sp + spStep)
  let s₂ := s₁.writeMem s₁.sp s₁.pc
  s₂.setPc (target.read s₂)

/-- JSR a at any value of the parameters (44_extended.md R140, R141). -/
def jsrWith (p : Config.Params) (a : Operand) (s : State) : Result :=
  .next (callTo p.jsrSpStep (resolve a s).acc (prepareExtended a s))

/-- JSR a (44_extended.md R140). -/
def execJsr (a : Operand) (s : State) : Result := jsrWith params a s

end Sys2Proof.Machine
end

