-- ==== Sys2Proof/Machine/Unknown.lean ====
section
/-! DEFINITION. The 63 unknown extended opcodes, performed: Fatal(UnknownOpcode) with the address and the word, no state
changed (44_extended.md R145; 60_exceptions.md R170, R172). A skipped one never comes here: the step passes over it
(40_fetch_decode_step.md R77). -/

namespace Sys2Proof.Machine

/-- Unknown extended opcode 0x00 (60_exceptions.md R170). -/
def execUnknownX00 (a : Operand) (s : State) : Result := raiseFatal (extendedWord 0x00 a.code) s

/-- Unknown extended opcode 0x02 (60_exceptions.md R170). -/
def execUnknownX02 (a : Operand) (s : State) : Result := raiseFatal (extendedWord 0x02 a.code) s

/-- Unknown extended opcode 0x03 (60_exceptions.md R170). -/
def execUnknownX03 (a : Operand) (s : State) : Result := raiseFatal (extendedWord 0x03 a.code) s

/-- Unknown extended opcode 0x04 (60_exceptions.md R170). -/
def execUnknownX04 (a : Operand) (s : State) : Result := raiseFatal (extendedWord 0x04 a.code) s

/-- Unknown extended opcode 0x05 (60_exceptions.md R170). -/
def execUnknownX05 (a : Operand) (s : State) : Result := raiseFatal (extendedWord 0x05 a.code) s

/-- Unknown extended opcode 0x06 (60_exceptions.md R170). -/
def execUnknownX06 (a : Operand) (s : State) : Result := raiseFatal (extendedWord 0x06 a.code) s

/-- Unknown extended opcode 0x07 (60_exceptions.md R170). -/
def execUnknownX07 (a : Operand) (s : State) : Result := raiseFatal (extendedWord 0x07 a.code) s

/-- Unknown extended opcode 0x08 (60_exceptions.md R170). -/
def execUnknownX08 (a : Operand) (s : State) : Result := raiseFatal (extendedWord 0x08 a.code) s

/-- Unknown extended opcode 0x09 (60_exceptions.md R170). -/
def execUnknownX09 (a : Operand) (s : State) : Result := raiseFatal (extendedWord 0x09 a.code) s

/-- Unknown extended opcode 0x0A (60_exceptions.md R170). -/
def execUnknownX0A (a : Operand) (s : State) : Result := raiseFatal (extendedWord 0x0A a.code) s

/-- Unknown extended opcode 0x0B (60_exceptions.md R170). -/
def execUnknownX0B (a : Operand) (s : State) : Result := raiseFatal (extendedWord 0x0B a.code) s

/-- Unknown extended opcode 0x0C (60_exceptions.md R170). -/
def execUnknownX0C (a : Operand) (s : State) : Result := raiseFatal (extendedWord 0x0C a.code) s

/-- Unknown extended opcode 0x0D (60_exceptions.md R170). -/
def execUnknownX0D (a : Operand) (s : State) : Result := raiseFatal (extendedWord 0x0D a.code) s

/-- Unknown extended opcode 0x0E (60_exceptions.md R170). -/
def execUnknownX0E (a : Operand) (s : State) : Result := raiseFatal (extendedWord 0x0E a.code) s

/-- Unknown extended opcode 0x0F (60_exceptions.md R170). -/
def execUnknownX0F (a : Operand) (s : State) : Result := raiseFatal (extendedWord 0x0F a.code) s

/-- Unknown extended opcode 0x10 (60_exceptions.md R170). -/
def execUnknownX10 (a : Operand) (s : State) : Result := raiseFatal (extendedWord 0x10 a.code) s

/-- Unknown extended opcode 0x11 (60_exceptions.md R170). -/
def execUnknownX11 (a : Operand) (s : State) : Result := raiseFatal (extendedWord 0x11 a.code) s

/-- Unknown extended opcode 0x12 (60_exceptions.md R170). -/
def execUnknownX12 (a : Operand) (s : State) : Result := raiseFatal (extendedWord 0x12 a.code) s

/-- Unknown extended opcode 0x13 (60_exceptions.md R170). -/
def execUnknownX13 (a : Operand) (s : State) : Result := raiseFatal (extendedWord 0x13 a.code) s

/-- Unknown extended opcode 0x14 (60_exceptions.md R170). -/
def execUnknownX14 (a : Operand) (s : State) : Result := raiseFatal (extendedWord 0x14 a.code) s

/-- Unknown extended opcode 0x15 (60_exceptions.md R170). -/
def execUnknownX15 (a : Operand) (s : State) : Result := raiseFatal (extendedWord 0x15 a.code) s

/-- Unknown extended opcode 0x16 (60_exceptions.md R170). -/
def execUnknownX16 (a : Operand) (s : State) : Result := raiseFatal (extendedWord 0x16 a.code) s

/-- Unknown extended opcode 0x17 (60_exceptions.md R170). -/
def execUnknownX17 (a : Operand) (s : State) : Result := raiseFatal (extendedWord 0x17 a.code) s

/-- Unknown extended opcode 0x18 (60_exceptions.md R170). -/
def execUnknownX18 (a : Operand) (s : State) : Result := raiseFatal (extendedWord 0x18 a.code) s

/-- Unknown extended opcode 0x19 (60_exceptions.md R170). -/
def execUnknownX19 (a : Operand) (s : State) : Result := raiseFatal (extendedWord 0x19 a.code) s

/-- Unknown extended opcode 0x1A (60_exceptions.md R170). -/
def execUnknownX1A (a : Operand) (s : State) : Result := raiseFatal (extendedWord 0x1A a.code) s

/-- Unknown extended opcode 0x1B (60_exceptions.md R170). -/
def execUnknownX1B (a : Operand) (s : State) : Result := raiseFatal (extendedWord 0x1B a.code) s

/-- Unknown extended opcode 0x1C (60_exceptions.md R170). -/
def execUnknownX1C (a : Operand) (s : State) : Result := raiseFatal (extendedWord 0x1C a.code) s

/-- Unknown extended opcode 0x1D (60_exceptions.md R170). -/
def execUnknownX1D (a : Operand) (s : State) : Result := raiseFatal (extendedWord 0x1D a.code) s

/-- Unknown extended opcode 0x1E (60_exceptions.md R170). -/
def execUnknownX1E (a : Operand) (s : State) : Result := raiseFatal (extendedWord 0x1E a.code) s

/-- Unknown extended opcode 0x1F (60_exceptions.md R170). -/
def execUnknownX1F (a : Operand) (s : State) : Result := raiseFatal (extendedWord 0x1F a.code) s

/-- Unknown extended opcode 0x20 (60_exceptions.md R170). -/
def execUnknownX20 (a : Operand) (s : State) : Result := raiseFatal (extendedWord 0x20 a.code) s

/-- Unknown extended opcode 0x21 (60_exceptions.md R170). -/
def execUnknownX21 (a : Operand) (s : State) : Result := raiseFatal (extendedWord 0x21 a.code) s

/-- Unknown extended opcode 0x22 (60_exceptions.md R170). -/
def execUnknownX22 (a : Operand) (s : State) : Result := raiseFatal (extendedWord 0x22 a.code) s

/-- Unknown extended opcode 0x23 (60_exceptions.md R170). -/
def execUnknownX23 (a : Operand) (s : State) : Result := raiseFatal (extendedWord 0x23 a.code) s

/-- Unknown extended opcode 0x24 (60_exceptions.md R170). -/
def execUnknownX24 (a : Operand) (s : State) : Result := raiseFatal (extendedWord 0x24 a.code) s

/-- Unknown extended opcode 0x25 (60_exceptions.md R170). -/
def execUnknownX25 (a : Operand) (s : State) : Result := raiseFatal (extendedWord 0x25 a.code) s

/-- Unknown extended opcode 0x26 (60_exceptions.md R170). -/
def execUnknownX26 (a : Operand) (s : State) : Result := raiseFatal (extendedWord 0x26 a.code) s

/-- Unknown extended opcode 0x27 (60_exceptions.md R170). -/
def execUnknownX27 (a : Operand) (s : State) : Result := raiseFatal (extendedWord 0x27 a.code) s

/-- Unknown extended opcode 0x28 (60_exceptions.md R170). -/
def execUnknownX28 (a : Operand) (s : State) : Result := raiseFatal (extendedWord 0x28 a.code) s

/-- Unknown extended opcode 0x29 (60_exceptions.md R170). -/
def execUnknownX29 (a : Operand) (s : State) : Result := raiseFatal (extendedWord 0x29 a.code) s

/-- Unknown extended opcode 0x2A (60_exceptions.md R170). -/
def execUnknownX2A (a : Operand) (s : State) : Result := raiseFatal (extendedWord 0x2A a.code) s

/-- Unknown extended opcode 0x2B (60_exceptions.md R170). -/
def execUnknownX2B (a : Operand) (s : State) : Result := raiseFatal (extendedWord 0x2B a.code) s

/-- Unknown extended opcode 0x2C (60_exceptions.md R170). -/
def execUnknownX2C (a : Operand) (s : State) : Result := raiseFatal (extendedWord 0x2C a.code) s

/-- Unknown extended opcode 0x2D (60_exceptions.md R170). -/
def execUnknownX2D (a : Operand) (s : State) : Result := raiseFatal (extendedWord 0x2D a.code) s

/-- Unknown extended opcode 0x2E (60_exceptions.md R170). -/
def execUnknownX2E (a : Operand) (s : State) : Result := raiseFatal (extendedWord 0x2E a.code) s

/-- Unknown extended opcode 0x2F (60_exceptions.md R170). -/
def execUnknownX2F (a : Operand) (s : State) : Result := raiseFatal (extendedWord 0x2F a.code) s

/-- Unknown extended opcode 0x30 (60_exceptions.md R170). -/
def execUnknownX30 (a : Operand) (s : State) : Result := raiseFatal (extendedWord 0x30 a.code) s

/-- Unknown extended opcode 0x31 (60_exceptions.md R170). -/
def execUnknownX31 (a : Operand) (s : State) : Result := raiseFatal (extendedWord 0x31 a.code) s

/-- Unknown extended opcode 0x32 (60_exceptions.md R170). -/
def execUnknownX32 (a : Operand) (s : State) : Result := raiseFatal (extendedWord 0x32 a.code) s

/-- Unknown extended opcode 0x33 (60_exceptions.md R170). -/
def execUnknownX33 (a : Operand) (s : State) : Result := raiseFatal (extendedWord 0x33 a.code) s

/-- Unknown extended opcode 0x34 (60_exceptions.md R170). -/
def execUnknownX34 (a : Operand) (s : State) : Result := raiseFatal (extendedWord 0x34 a.code) s

/-- Unknown extended opcode 0x35 (60_exceptions.md R170). -/
def execUnknownX35 (a : Operand) (s : State) : Result := raiseFatal (extendedWord 0x35 a.code) s

/-- Unknown extended opcode 0x36 (60_exceptions.md R170). -/
def execUnknownX36 (a : Operand) (s : State) : Result := raiseFatal (extendedWord 0x36 a.code) s

/-- Unknown extended opcode 0x37 (60_exceptions.md R170). -/
def execUnknownX37 (a : Operand) (s : State) : Result := raiseFatal (extendedWord 0x37 a.code) s

/-- Unknown extended opcode 0x38 (60_exceptions.md R170). -/
def execUnknownX38 (a : Operand) (s : State) : Result := raiseFatal (extendedWord 0x38 a.code) s

/-- Unknown extended opcode 0x39 (60_exceptions.md R170). -/
def execUnknownX39 (a : Operand) (s : State) : Result := raiseFatal (extendedWord 0x39 a.code) s

/-- Unknown extended opcode 0x3A (60_exceptions.md R170). -/
def execUnknownX3A (a : Operand) (s : State) : Result := raiseFatal (extendedWord 0x3A a.code) s

/-- Unknown extended opcode 0x3B (60_exceptions.md R170). -/
def execUnknownX3B (a : Operand) (s : State) : Result := raiseFatal (extendedWord 0x3B a.code) s

/-- Unknown extended opcode 0x3C (60_exceptions.md R170). -/
def execUnknownX3C (a : Operand) (s : State) : Result := raiseFatal (extendedWord 0x3C a.code) s

/-- Unknown extended opcode 0x3D (60_exceptions.md R170). -/
def execUnknownX3D (a : Operand) (s : State) : Result := raiseFatal (extendedWord 0x3D a.code) s

/-- Unknown extended opcode 0x3E (60_exceptions.md R170). -/
def execUnknownX3E (a : Operand) (s : State) : Result := raiseFatal (extendedWord 0x3E a.code) s

/-- Unknown extended opcode 0x3F (60_exceptions.md R170). -/
def execUnknownX3F (a : Operand) (s : State) : Result := raiseFatal (extendedWord 0x3F a.code) s

end Sys2Proof.Machine
end

