-- ==== Sys2Proof/Machine/Dispatch.lean ====
section
/-! DEFINITION. The meaning of every instruction, performed: stages 4 to 7 of the step (40_fetch_decode_step.md R70,
R79). -/

namespace Sys2Proof.Machine

def exec (i : Instr) (s : State) : Host.Outcome State Fault Refusal :=
  match i with
  | .set a b => Sys2Proof.Machine.execSet a b s
  | .add a b => Sys2Proof.Machine.execAdd a b s
  | .sub a b => Sys2Proof.Machine.execSub a b s
  | .mul a b => Sys2Proof.Machine.execMul a b s
  | .div a b => Sys2Proof.Machine.execDiv a b s
  | .mod a b => Sys2Proof.Machine.execMod a b s
  | .shl a b => Sys2Proof.Machine.execShl a b s
  | .shr a b => Sys2Proof.Machine.execShr a b s
  | .and a b => Sys2Proof.Machine.execAnd a b s
  | .bor a b => Sys2Proof.Machine.execBor a b s
  | .xor a b => Sys2Proof.Machine.execXor a b s
  | .ife a b => Sys2Proof.Machine.execIfe a b s
  | .ifn a b => Sys2Proof.Machine.execIfn a b s
  | .ifg a b => Sys2Proof.Machine.execIfg a b s
  | .ifb a b => Sys2Proof.Machine.execIfb a b s
  | .jsr a => Sys2Proof.Machine.execJsr a s
  | .unknownX00 a => Sys2Proof.Machine.execUnknownX00 a s
  | .unknownX02 a => Sys2Proof.Machine.execUnknownX02 a s
  | .unknownX03 a => Sys2Proof.Machine.execUnknownX03 a s
  | .unknownX04 a => Sys2Proof.Machine.execUnknownX04 a s
  | .unknownX05 a => Sys2Proof.Machine.execUnknownX05 a s
  | .unknownX06 a => Sys2Proof.Machine.execUnknownX06 a s
  | .unknownX07 a => Sys2Proof.Machine.execUnknownX07 a s
  | .unknownX08 a => Sys2Proof.Machine.execUnknownX08 a s
  | .unknownX09 a => Sys2Proof.Machine.execUnknownX09 a s
  | .unknownX0A a => Sys2Proof.Machine.execUnknownX0A a s
  | .unknownX0B a => Sys2Proof.Machine.execUnknownX0B a s
  | .unknownX0C a => Sys2Proof.Machine.execUnknownX0C a s
  | .unknownX0D a => Sys2Proof.Machine.execUnknownX0D a s
  | .unknownX0E a => Sys2Proof.Machine.execUnknownX0E a s
  | .unknownX0F a => Sys2Proof.Machine.execUnknownX0F a s
  | .unknownX10 a => Sys2Proof.Machine.execUnknownX10 a s
  | .unknownX11 a => Sys2Proof.Machine.execUnknownX11 a s
  | .unknownX12 a => Sys2Proof.Machine.execUnknownX12 a s
  | .unknownX13 a => Sys2Proof.Machine.execUnknownX13 a s
  | .unknownX14 a => Sys2Proof.Machine.execUnknownX14 a s
  | .unknownX15 a => Sys2Proof.Machine.execUnknownX15 a s
  | .unknownX16 a => Sys2Proof.Machine.execUnknownX16 a s
  | .unknownX17 a => Sys2Proof.Machine.execUnknownX17 a s
  | .unknownX18 a => Sys2Proof.Machine.execUnknownX18 a s
  | .unknownX19 a => Sys2Proof.Machine.execUnknownX19 a s
  | .unknownX1A a => Sys2Proof.Machine.execUnknownX1A a s
  | .unknownX1B a => Sys2Proof.Machine.execUnknownX1B a s
  | .unknownX1C a => Sys2Proof.Machine.execUnknownX1C a s
  | .unknownX1D a => Sys2Proof.Machine.execUnknownX1D a s
  | .unknownX1E a => Sys2Proof.Machine.execUnknownX1E a s
  | .unknownX1F a => Sys2Proof.Machine.execUnknownX1F a s
  | .unknownX20 a => Sys2Proof.Machine.execUnknownX20 a s
  | .unknownX21 a => Sys2Proof.Machine.execUnknownX21 a s
  | .unknownX22 a => Sys2Proof.Machine.execUnknownX22 a s
  | .unknownX23 a => Sys2Proof.Machine.execUnknownX23 a s
  | .unknownX24 a => Sys2Proof.Machine.execUnknownX24 a s
  | .unknownX25 a => Sys2Proof.Machine.execUnknownX25 a s
  | .unknownX26 a => Sys2Proof.Machine.execUnknownX26 a s
  | .unknownX27 a => Sys2Proof.Machine.execUnknownX27 a s
  | .unknownX28 a => Sys2Proof.Machine.execUnknownX28 a s
  | .unknownX29 a => Sys2Proof.Machine.execUnknownX29 a s
  | .unknownX2A a => Sys2Proof.Machine.execUnknownX2A a s
  | .unknownX2B a => Sys2Proof.Machine.execUnknownX2B a s
  | .unknownX2C a => Sys2Proof.Machine.execUnknownX2C a s
  | .unknownX2D a => Sys2Proof.Machine.execUnknownX2D a s
  | .unknownX2E a => Sys2Proof.Machine.execUnknownX2E a s
  | .unknownX2F a => Sys2Proof.Machine.execUnknownX2F a s
  | .unknownX30 a => Sys2Proof.Machine.execUnknownX30 a s
  | .unknownX31 a => Sys2Proof.Machine.execUnknownX31 a s
  | .unknownX32 a => Sys2Proof.Machine.execUnknownX32 a s
  | .unknownX33 a => Sys2Proof.Machine.execUnknownX33 a s
  | .unknownX34 a => Sys2Proof.Machine.execUnknownX34 a s
  | .unknownX35 a => Sys2Proof.Machine.execUnknownX35 a s
  | .unknownX36 a => Sys2Proof.Machine.execUnknownX36 a s
  | .unknownX37 a => Sys2Proof.Machine.execUnknownX37 a s
  | .unknownX38 a => Sys2Proof.Machine.execUnknownX38 a s
  | .unknownX39 a => Sys2Proof.Machine.execUnknownX39 a s
  | .unknownX3A a => Sys2Proof.Machine.execUnknownX3A a s
  | .unknownX3B a => Sys2Proof.Machine.execUnknownX3B a s
  | .unknownX3C a => Sys2Proof.Machine.execUnknownX3C a s
  | .unknownX3D a => Sys2Proof.Machine.execUnknownX3D a s
  | .unknownX3E a => Sys2Proof.Machine.execUnknownX3E a s
  | .unknownX3F a => Sys2Proof.Machine.execUnknownX3F a s

end Sys2Proof.Machine
end

