-- ==== Sys2Proof/Machine/Fetch.lean ====
section
/-! DEFINITION. Fetching and decoding the instruction at PC, and the skipping step (40_fetch_decode_step.md R70
stages 1 to 3, R71 to R73, R76). -/

namespace Sys2Proof.Machine

/-- The instruction that a memory holds at an address: its word and, where its operand codes consume them, the words
after it, modulo 65536 (30_encoding.md R57, R58; 40_fetch_decode_step.md R71). Reading a word that is not consumed
cannot be observed (20_memory.md R37). -/
def instrAt (m : Memory) (a : Word) : Instr := decodeTriple (m.read a) (m.read (a + 1)) (m.read (a + 2))

/-- The instruction at PC, read afresh from memory on every step (40_fetch_decode_step.md R71). -/
def fetch (s : State) : Instr := instrAt s.mem s.pc

/-- Whether the step skips its instruction (40_fetch_decode_step.md R76). -/
def skipping (s : State) : Bool := s.skip

/-- The skipping step: PC past the instruction and its extra words, the flag cleared, nothing else
(40_fetch_decode_step.md R76). It does not look at the opcode, so an unknown one is passed over too (R77; log 6). -/
def passOver (i : Instr) (s : State) : State := (s.setPc (s.nextPc i.length)).setSkip false

/-- A state whose next step fetches and performs the instruction with these words: they stand at PC, and the skip flag
is off. -/
def placeAtPc (ws : List Word) (s : State) : State := (s.writeWords s.pc ws).setSkip false

end Sys2Proof.Machine
end

