-- ==== Sys2Proof/Machine/Step.lean ====
section
/-! DEFINITION. One step of the machine (40_fetch_decode_step.md R70). -/

namespace Sys2Proof.Machine

/-- `Step()`: fetch and decode the instruction at PC, then pass over it if the skip flag is set, else perform it
(40_fetch_decode_step.md R70). -/
def step (s : State) : Host.Outcome State Fault Refusal :=
  let i := fetch s
  if skipping s then .next (passOver i s) else exec i s

/-- The state with an instruction's three words stored at PC, PC + 1 and PC + 2, where the next step fetches, and with
the skip flag off, so that the next step performs it (log 14). -/
def State.withFetchWord (s : State) (nbits w : Nat) : State := placeAtPc (tableWords nbits w) s

end Sys2Proof.Machine
end

