-- ==== Sys2Proof/Machine/Parameters.lean ====
section
/-! DEFINITION. The machine at every value of the parameters that the spec leaves open (00_scope.md R6;
40_fetch_decode_step.md R81). `exec` and `step` are this machine at the value Machine/Params.lean chooses. -/

namespace Sys2Proof.Machine

/-- `exec` at given parameters: ADD, SUB, MUL, DIV, SHL and SHR read DEST_O_ORDER (42_basic_alu.md R123), JSR reads
JSR_SP_STEP (44_extended.md R140), and no other instruction reads a parameter. -/
def execWith (p : Config.Params) (i : Instr) (s : State) : Result :=
  match i with
  | .add a b => addWith p a b s
  | .sub a b => subWith p a b s
  | .mul a b => mulWith p a b s
  | .div a b => divWith p a b s
  | .shl a b => shlWith p a b s
  | .shr a b => shrWith p a b s
  | .jsr a => jsrWith p a s
  | other => exec other s

/-- `step` at given parameters (40_fetch_decode_step.md R70, R81). -/
def stepWith (p : Config.Params) (s : State) : Result :=
  let i := fetch s
  if skipping s then .next (passOver i s) else execWith p i s

end Sys2Proof.Machine
end

