-- ==== Sys2Proof/Machine/Reference.lean ====
section
/-! DEFINITION. The step as the spec's pseudocode writes it, stage by stage, on raw operand codes and a next-word
pointer (40_fetch_decode_step.md R70). Its resolver is the table of results of 41_operand_resolver.md section 3, and its
executor is the pseudocode of 42_basic_alu.md, 43_conditional.md and 44_extended.md. It never decodes into the syntax
of Instr: it is there to hold the machine against. -/

namespace Sys2Proof.Machine

/-- `Resolve(code, nw)`: the accessor, its pre-effect and the updated next-word pointer (41_operand_resolver.md R90,
R108, table of results). -/
def resolveCode (c : BitVec 6) (nw : Word) (s : State) : Accessor × PreEffect × Word :=
  if c.toNat ≤ 7 then (.reg (Reg.ofNumber c.toNat), .none, nw)
  else if c.toNat ≤ 15 then (.mem (s.reg (Reg.ofNumber (c.toNat - 8))), .none, nw)
  else if c.toNat ≤ 23 then (.mem (s.reg (Reg.ofNumber (c.toNat - 16)) + s.readMem nw), .none, nw + 1)
  else if c.toNat = 24 then (.mem s.sp, .incSp, nw)
  else if c.toNat = 25 then (.mem s.sp, .none, nw)
  else if c.toNat = 26 then (.mem (s.sp - 1), .decSp, nw)
  else if c.toNat = 27 then (.sp, .none, nw)
  else if c.toNat = 28 then (.pc, .none, nw)
  else if c.toNat = 29 then (.o, .none, nw)
  else if c.toNat = 30 then (.mem (s.readMem nw), .none, nw + 1)
  else if c.toNat = 31 then (.lit (s.readMem nw), .none, nw + 1)
  else (.lit (BitVec.ofNat 16 (c.toNat - 32)), .none, nw)

/-- The write of a result and of O, in the order that DEST_O_ORDER says (42_basic_alu.md R111 to R117, R123). -/
def referenceWriteO (p : Config.Params) (accA : Accessor) (result side : Nat) (s : State) : State :=
  let r := BitVec.ofNat 16 (result % 65536)
  let v := BitVec.ofNat 16 (side % 65536)
  match p.destOOrder with
  | .resultThenO => (accA.write r s).setO v
  | .oThenResult => accA.write r (s.setO v)

/-- `ExecuteBasic(o, accA, accB)`: the pseudocode of each basic instruction, over natural numbers
(42_basic_alu.md R110 to R120; 43_conditional.md R131 to R134). -/
def executeBasic (p : Config.Params) (o : BitVec 4) (accA accB : Accessor) (s : State) : State :=
  let va := (accA.read s).toNat
  let vb := (accB.read s).toNat
  match o.toNat with
  | 1 => accA.write (BitVec.ofNat 16 vb) s
  | 2 => referenceWriteO p accA (va + vb) (if va + vb ≥ 65536 then 1 else 0) s
  | 3 => referenceWriteO p accA (va + 65536 - vb) (if va < vb then 0xFFFF else 0) s
  | 4 => referenceWriteO p accA (va * vb) ((va * vb) / 65536) s
  | 5 => if vb = 0 then referenceWriteO p accA 0 0 s
         else referenceWriteO p accA (va / vb) (va * 65536 / vb) s
  | 6 => accA.write (BitVec.ofNat 16 (if vb = 0 then 0 else va % vb)) s
  | 7 => referenceWriteO p accA (va * 2 ^ vb) (va * 2 ^ vb / 65536) s
  | 8 => referenceWriteO p accA (va / 2 ^ vb) (va * 65536 / 2 ^ vb) s
  | 9 => accA.write (BitVec.ofNat 16 (va &&& vb)) s
  | 10 => accA.write (BitVec.ofNat 16 (va ||| vb)) s
  | 11 => accA.write (BitVec.ofNat 16 (va ^^^ vb)) s
  | 12 => s.setSkip (!decide (va = vb))
  | 13 => s.setSkip (!decide (va ≠ vb))
  | 14 => s.setSkip (!decide (va > vb))
  | _ => s.setSkip (!decide (va &&& vb ≠ 0))

/-- `ExecuteJSR(accA)` (44_extended.md R140). -/
def executeJsr (p : Config.Params) (accA : Accessor) (s : State) : State :=
  let s := s.setSp (s.sp + p.jsrSpStep)
  let s := s.writeMem s.sp s.pc
  s.setPc (accA.read s)

/-- `Step()`, the stages of 40_fetch_decode_step.md R70 in their order. -/
def referenceStep (p : Config.Params) (s : State) : Result :=
  let pc0 := s.pc
  let w := s.readMem pc0
  let nw := pc0 + 1
  if opcodeField w ≠ 0 then
    let (accA, preA, nw) := resolveCode (middleField w) nw s
    let (accB, preB, nw) := resolveCode (upperField w) nw s
    if s.skip then .next ((s.setPc nw).setSkip false)
    else .next (executeBasic p (opcodeField w) accA accB
      (firePreEffect preB (firePreEffect preA (s.setPc nw))))
  else
    let (accA, preA, nw) := resolveCode (upperField w) nw s
    if s.skip then .next ((s.setPc nw).setSkip false)
    else if middleField w ≠ 0x01 then .fault (.unknownOpcode pc0 w)
    else .next (executeJsr p accA (firePreEffect preA (s.setPc nw)))

end Sys2Proof.Machine
end

