-- ==== Sys2Proof/Machine/Disasm.lean ====
section
/-! DEFINITION. The disassembler: a second decoder, which walks the operand codes by itself and shares nothing with
Decode.lean but the fields of the word (45_disassembler.md R150 to R158). Its text format is the spec's own choice
(log 3). -/

namespace Sys2Proof.Machine

/-- A lower-case hexadecimal digit, of a number below 16. -/
def hexDigit (n : Nat) : Char := if n < 10 then Char.ofNat (48 + n) else Char.ofNat (87 + n)

/-- `0x` and exactly four digits (45_disassembler.md R154). -/
def hex4 (k : Word) : String :=
  String.ofList ['0', 'x', hexDigit (k.toNat / 4096 % 16), hexDigit (k.toNat / 256 % 16),
    hexDigit (k.toNat / 16 % 16), hexDigit (k.toNat % 16)]

/-- `0x` and exactly two digits (45_disassembler.md R157). -/
def hex2 (k : Word) : String :=
  String.ofList ['0', 'x', hexDigit (k.toNat / 16 % 16), hexDigit (k.toNat % 16)]

/-- The name of the general register with a number (45_disassembler.md R153). -/
def registerName (n : Nat) : String :=
  match n with
  | 0 => "A" | 1 => "B" | 2 => "C" | 3 => "X" | 4 => "Y" | 5 => "Z" | 6 => "I" | _ => "J"

/-- `BasicMnemonic(o)`, o from 1 to 15 (45_disassembler.md R152). -/
def basicMnemonic (o : BitVec 4) : String :=
  match o.toNat with
  | 1 => "SET" | 2 => "ADD" | 3 => "SUB" | 4 => "MUL" | 5 => "DIV" | 6 => "MOD" | 7 => "SHL" | 8 => "SHR"
  | 9 => "AND" | 10 => "BOR" | 11 => "XOR" | 12 => "IFE" | 13 => "IFN" | 14 => "IFG" | _ => "IFB"

/-- `RenderOperand(c, nw)`: the operand's text and the address of the next unread word (45_disassembler.md R153 to
R157). -/
def renderOperand (m : Memory) (c : BitVec 6) (nw : Word) : String × Word :=
  if c.toNat < 8 then (registerName c.toNat, nw)
  else if c.toNat < 16 then ("[" ++ registerName (c.toNat - 8) ++ "]", nw)
  else if c.toNat < 24 then
    ("[" ++ hex4 (m.read nw) ++ "+" ++ registerName (c.toNat - 16) ++ "]", nw + 1)
  else match c.toNat with
    | 24 => ("POP", nw)
    | 25 => ("PEEK", nw)
    | 26 => ("PUSH", nw)
    | 27 => ("SP", nw)
    | 28 => ("PC", nw)
    | 29 => ("O", nw)
    | 30 => ("[" ++ hex4 (m.read nw) ++ "]", nw + 1)
    | 31 => (hex4 (m.read nw), nw + 1)
    | n => (hex2 (BitVec.ofNat 16 (n - 32)), nw)

/-- `disasm(addr)` with a given placeholder token: the text of the instruction at an address and the address of the
next one, from memory alone (45_disassembler.md R150, R151, R158). It never fails (R159). -/
def disasmWith (placeholder : String) (m : Memory) (addr : Word) : String × Word :=
  let w := m.read addr
  let nw := addr + 1
  if opcodeField w ≠ 0 then
    let ra := renderOperand m (middleField w) nw
    let rb := renderOperand m (upperField w) ra.2
    (basicMnemonic (opcodeField w) ++ " " ++ ra.1 ++ ", " ++ rb.1, rb.2)
  else
    let ra := renderOperand m (upperField w) nw
    if middleField w = 0x01 then ("JSR" ++ " " ++ ra.1, ra.2)
    else (placeholder ++ " " ++ ra.1, ra.2)

/-- `disasm(addr)` (45_disassembler.md R150). -/
def disasm (m : Memory) (addr : Word) : String × Word := disasmWith params.disasmPlaceholder m addr

end Sys2Proof.Machine
end

