-- ==== Sys2Proof/Machine/HostPort.lean ====
section
/-! DEFINITION. The block as the host drives it: its four commands (00_scope.md R4; 70_reset_and_hazards.md R190, R197,
R198), and the image load, which is a duty of the host (R196). -/

namespace Sys2Proof.Machine

/-- A piece of state that holds a Word (10_state.md R10). -/
inductive Place where
  | reg (r : Reg)
  | pc
  | sp
  | o
  | mem (addr : Word)
  deriving DecidableEq, Repr

/-- What a piece of state holds. -/
def State.look (s : State) (p : Place) : Word :=
  match p with
  | .reg r => s.reg r
  | .pc => s.pc
  | .sp => s.sp
  | .o => s.o
  | .mem addr => s.readMem addr

/-- Put a Word into a piece of state. -/
def State.put (s : State) (p : Place) (v : Word) : State :=
  match p with
  | .reg r => s.setReg r v
  | .pc => s.setPc v
  | .sp => s.setSp v
  | .o => s.setO v
  | .mem addr => s.writeMem addr v

/-- The commands of the host, given between steps (00_scope.md R4; 70_reset_and_hazards.md R197). -/
inductive Command where
  /-- put every piece of state into its initial value (70_reset_and_hazards.md R190) -/
  | reset
  /-- one step (40_fetch_decode_step.md R70) -/
  | step
  /-- the text of the instruction at an address and the next address (45_disassembler.md R150) -/
  | disasm (addr : Word)
  /-- read a register or a memory cell -/
  | read (p : Place)
  /-- write a register or a memory cell -/
  | write (p : Place) (v : Word)
  /-- read the skip flag -/
  | readSkip
  /-- write the skip flag -/
  | writeSkip (v : Bool)
  deriving DecidableEq, Repr

/-- What the block gives back (70_reset_and_hazards.md R198). -/
inductive Response where
  /-- the command took effect; of a step, the outcome Done -/
  | done
  /-- the outcome Fatal(UnknownOpcode, pc, word) of a step (60_exceptions.md R170) -/
  | fatal (pc word : Word)
  /-- of `disasm`: the text and the address of the next instruction -/
  | text (t : String) (next : Word)
  /-- of a read -/
  | word (v : Word)
  /-- of a read of the skip flag -/
  | flag (v : Bool)
  /-- a step that the model does not answer; no step is (60_exceptions.md R184) -/
  | noAnswer (r : Refusal)
  deriving DecidableEq, Repr

/-- One command: the state after it and what the block gives back. A Fatal step leaves the state as it was
(60_exceptions.md R172), and the block stores no fault bit (R175). -/
def obey (c : Command) (s : State) : State × Response :=
  match c with
  | .reset => (State.reset, .done)
  | .step =>
    match step s with
    | .next t => (t, .done)
    | .fault (.unknownOpcode pc word) => (s, .fatal pc word)
    | .refused r => (s, .noAnswer r)
  | .disasm addr => (s, .text (disasm s.mem addr).1 (disasm s.mem addr).2)
  | .read p => (s, .word (s.look p))
  | .write p v => (s.put p v, .done)
  | .readSkip => (s, .flag s.skip)
  | .writeSkip v => (s.setSkip v, .done)

/-- The words of a program image: big-endian pairs of bytes, an odd trailing byte dropped (20_memory.md R34). -/
def imageWords : List Byte → List Word
  | hi :: lo :: rest => (hi ++ lo) :: imageWords rest
  | _ => []

/-- The host's image load: word k of the image goes to address k (70_reset_and_hazards.md R196). An image of more than
65536 words is refused, since the spec does not say what happens to it (log 15). -/
def loadImage (image : List Byte) (s : State) : Result :=
  if (imageWords image).length > Config.memWords then .refused .imageTooLong
  else .next (s.writeWords 0 (imageWords image))

/-- The cell of the display region for a row and a column (20_memory.md R38). It is plain memory to the block. -/
def displayCell (row col : Nat) : Word :=
  BitVec.ofNat 16 (Config.displayBase + Config.displayColumns * row + col)

end Sys2Proof.Machine
end

