-- ==== Sys2Proof/Safety.lean ====
section
/-! DEFINITION. What counts as a safe run, and the terms that claims use: the state's invariant, the words that are
Fatal, and what an operand means seen from the state before the step. -/

namespace Sys2Proof.Machine

/-! ## Safe states and runs -/

/-- The invariant of the state: its memory is in canonical form. Nothing else can be wrong with a state, since every
Word is legal in every register and cell (70_reset_and_hazards.md R197). -/
def State.wf (s : State) : Bool := s.mem.wf

/-- A word that encodes no defined instruction (30_encoding.md R62). -/
def illegalWord (w : Word) : Bool := opcodeField w == 0 && middleField w != 0x01

/-- Whether the next step ends Fatal (60_exceptions.md R170, R177). -/
def State.fatalNext (s : State) : Bool := !s.skip && illegalWord (s.readMem s.pc)

/-- A run of `n` steps that meets no Fatal (60_exceptions.md R174: a faulted state is never a final state). -/
def SafeFor (n : Nat) (s : State) : Prop := ∃ t, Host.Core.run Sys2Proof.core n s = .next t

/-! ## Lengths from operand codes (30_encoding.md R54, R57) -/

/-- `extra(c)`: 1 if the code is in 16 to 23, or is 30 or 31, else 0 (30_encoding.md R54). -/
def codeExtra (c : BitVec 6) : Nat :=
  if (16 ≤ c.toNat ∧ c.toNat ≤ 23) ∨ c.toNat = 30 ∨ c.toNat = 31 then 1 else 0

/-- The length in words of the instruction that a word begins (30_encoding.md R54). -/
def wordLength (w : Word) : Nat :=
  if opcodeField w = 0 then 1 + codeExtra (upperField w)
  else 1 + codeExtra (middleField w) + codeExtra (upperField w)

/-! ## Operands, seen from the state before the step -/

/-- The piece of state that an operand names, fixed before any pre-effect; a literal names none
(41_operand_resolver.md R91, R95 to R107). -/
def placeOf (op : Operand) (s : State) : Option Place :=
  match op with
  | .reg r => some (.reg r)
  | .ind r => some (.mem (s.reg r))
  | .indOff r k => some (.mem (s.reg r + k))
  | .pop => some (.mem s.sp)
  | .peek => some (.mem s.sp)
  | .push => some (.mem (s.sp - 1))
  | .sp => some .sp
  | .pc => some .pc
  | .o => some .o
  | .nw k => some (.mem k)
  | .lit _ => none
  | .small _ => none

/-- The piece of state that an accessor names; a literal names none (41_operand_resolver.md R91). -/
def accessorPlace (acc : Accessor) : Option Place :=
  match acc with
  | .reg r => some (.reg r)
  | .sp => some .sp
  | .pc => some .pc
  | .o => some .o
  | .mem addr => some (.mem addr)
  | .lit _ => none

/-- SP after an operand's pre-effect (41_operand_resolver.md R94). -/
def spMove (op : Operand) (sp : Word) : Word :=
  match op with
  | .pop => sp + 1
  | .push => sp - 1
  | .reg _ | .ind _ | .indOff _ _ | .peek | .sp | .pc | .o | .nw _ | .lit _ | .small _ => sp

/-- PC during the execution of an instruction: the address of the following one (10_state.md R15, R16). -/
def pcAfter (i : Instr) (s : State) : Word := s.pc + BitVec.ofNat 16 i.length

/-- SP during the execution of a basic instruction: after both pre-effects (40_fetch_decode_step.md R75). -/
def spAfter (a b : Operand) (s : State) : Word := spMove b (spMove a s.sp)

/-- The value that an operand has for the executor, when PC and SP hold the given values: registers SP and PC are read
live, everything else is as in the state before the step (41_operand_resolver.md R91, R92). -/
def valueOf (op : Operand) (s : State) (pc sp : Word) : Word :=
  match op with
  | .reg r => s.reg r
  | .ind r => s.readMem (s.reg r)
  | .indOff r k => s.readMem (s.reg r + k)
  | .pop => s.readMem s.sp
  | .peek => s.readMem s.sp
  | .push => s.readMem (s.sp - 1)
  | .sp => sp
  | .pc => pc
  | .o => s.o
  | .nw k => s.readMem k
  | .lit k => k
  | .small v => v

/-! ## What an instruction does, place by place -/

/-- From `s` to `t`: the result goes to operand a's place, PC and SP hold the values they have during execution, every
other place is as before, and so is the skip flag (42_basic_alu.md section 0). -/
def WritesResult (i : Instr) (result : Word → Word → Word) (a b : Operand) (s t : State) : Prop :=
  (∀ p, t.look p =
    if placeOf a s = some p then
      result (valueOf a s (pcAfter i s) (spAfter a b s)) (valueOf b s (pcAfter i s) (spAfter a b s))
    else if p = .pc then pcAfter i s
    else if p = .sp then spAfter a b s
    else s.look p) ∧
  t.skip = s.skip

/-- As `WritesResult`, and O holds a side value, which lands last where O is the destination too
(42_basic_alu.md section 0, R122, R123). -/
def WritesResultAndO (i : Instr) (result side : Word → Word → Word) (a b : Operand) (s t : State) : Prop :=
  (∀ p, t.look p =
    if p = .o then
      side (valueOf a s (pcAfter i s) (spAfter a b s)) (valueOf b s (pcAfter i s) (spAfter a b s))
    else if placeOf a s = some p then
      result (valueOf a s (pcAfter i s) (spAfter a b s)) (valueOf b s (pcAfter i s) (spAfter a b s))
    else if p = .pc then pcAfter i s
    else if p = .sp then spAfter a b s
    else s.look p) ∧
  t.skip = s.skip

/-- From `s` to `t`: PC and SP hold the values they have during execution, every other place is as before, and the skip
flag is set exactly if the condition fails (43_conditional.md R130). -/
def SetsSkip (i : Instr) (condition : Word → Word → Prop) (a b : Operand) (s t : State) : Prop :=
  (∀ p, t.look p =
    if p = .pc then pcAfter i s
    else if p = .sp then spAfter a b s
    else s.look p) ∧
  (t.skip = true ↔
    ¬ condition (valueOf a s (pcAfter i s) (spAfter a b s)) (valueOf b s (pcAfter i s) (spAfter a b s)))

/-- From `s` to `t`: SP has moved by a's pre-effect and then by the step, the cell at the new SP holds the address of
the following instruction, PC holds the value of a read after that store, every other place and the skip flag are as
before (44_extended.md R140). -/
def Calls (spStep : Word) (a : Operand) (s t : State) : Prop :=
  let ret := pcAfter (.jsr a) s
  let newSp := spMove a s.sp + spStep
  (∀ p, t.look p =
    if p = .pc then
      (if placeOf a s = some (.mem newSp) then ret else valueOf a s ret newSp)
    else if p = .sp then newSp
    else if p = .mem newSp then ret
    else s.look p) ∧
  t.skip = s.skip

/-! ## Kinds of instruction -/

/-- How an instruction uses its operands and what it writes (42_basic_alu.md; 43_conditional.md; 44_extended.md). -/
inductive Shape where
  /-- writes a result to its destination: SET, MOD, AND, BOR, XOR -/
  | result
  /-- writes a result to its destination and a side value to O: ADD, SUB, MUL, DIV, SHL, SHR -/
  | resultAndO
  /-- only writes the skip flag: IFE, IFN, IFG, IFB -/
  | test
  /-- JSR -/
  | call
  /-- an unknown extended opcode -/
  | unknown
  deriving DecidableEq, Repr

/-- The shape of an instruction. -/
def shapeOf (i : Instr) : Shape :=
  match i with
  | .set _ _ => .result
  | .add _ _ => .resultAndO
  | .sub _ _ => .resultAndO
  | .mul _ _ => .resultAndO
  | .div _ _ => .resultAndO
  | .mod _ _ => .result
  | .shl _ _ => .resultAndO
  | .shr _ _ => .resultAndO
  | .and _ _ => .result
  | .bor _ _ => .result
  | .xor _ _ => .result
  | .ife _ _ => .test
  | .ifn _ _ => .test
  | .ifg _ _ => .test
  | .ifb _ _ => .test
  | .jsr _ => .call
  | .unknownX00 _ => .unknown
  | .unknownX02 _ => .unknown
  | .unknownX03 _ => .unknown
  | .unknownX04 _ => .unknown
  | .unknownX05 _ => .unknown
  | .unknownX06 _ => .unknown
  | .unknownX07 _ => .unknown
  | .unknownX08 _ => .unknown
  | .unknownX09 _ => .unknown
  | .unknownX0A _ => .unknown
  | .unknownX0B _ => .unknown
  | .unknownX0C _ => .unknown
  | .unknownX0D _ => .unknown
  | .unknownX0E _ => .unknown
  | .unknownX0F _ => .unknown
  | .unknownX10 _ => .unknown
  | .unknownX11 _ => .unknown
  | .unknownX12 _ => .unknown
  | .unknownX13 _ => .unknown
  | .unknownX14 _ => .unknown
  | .unknownX15 _ => .unknown
  | .unknownX16 _ => .unknown
  | .unknownX17 _ => .unknown
  | .unknownX18 _ => .unknown
  | .unknownX19 _ => .unknown
  | .unknownX1A _ => .unknown
  | .unknownX1B _ => .unknown
  | .unknownX1C _ => .unknown
  | .unknownX1D _ => .unknown
  | .unknownX1E _ => .unknown
  | .unknownX1F _ => .unknown
  | .unknownX20 _ => .unknown
  | .unknownX21 _ => .unknown
  | .unknownX22 _ => .unknown
  | .unknownX23 _ => .unknown
  | .unknownX24 _ => .unknown
  | .unknownX25 _ => .unknown
  | .unknownX26 _ => .unknown
  | .unknownX27 _ => .unknown
  | .unknownX28 _ => .unknown
  | .unknownX29 _ => .unknown
  | .unknownX2A _ => .unknown
  | .unknownX2B _ => .unknown
  | .unknownX2C _ => .unknown
  | .unknownX2D _ => .unknown
  | .unknownX2E _ => .unknown
  | .unknownX2F _ => .unknown
  | .unknownX30 _ => .unknown
  | .unknownX31 _ => .unknown
  | .unknownX32 _ => .unknown
  | .unknownX33 _ => .unknown
  | .unknownX34 _ => .unknown
  | .unknownX35 _ => .unknown
  | .unknownX36 _ => .unknown
  | .unknownX37 _ => .unknown
  | .unknownX38 _ => .unknown
  | .unknownX39 _ => .unknown
  | .unknownX3A _ => .unknown
  | .unknownX3B _ => .unknown
  | .unknownX3C _ => .unknown
  | .unknownX3D _ => .unknown
  | .unknownX3E _ => .unknown
  | .unknownX3F _ => .unknown

/-- The place an instruction stores its result in: operand a's for the instructions that have a destination, none for a
conditional, the cell below SP for JSR, none for an unknown opcode. -/
def destinationOf (i : Instr) (s : State) : Option Place :=
  match shapeOf i, i.operands with
  | .result, a :: _ => placeOf a s
  | .resultAndO, a :: _ => placeOf a s
  | .call, a :: _ => some (.mem (spMove a s.sp - 1))
  | _, _ => none

/-! ## Text of a decoded instruction (30_encoding.md R65) -/

/-- The spelling of a general register (10_state.md R11). -/
def regText (r : Reg) : String :=
  match r with
  | .a => "A" | .b => "B" | .c => "C" | .x => "X" | .y => "Y" | .z => "Z" | .i => "I" | .j => "J"

/-- The spelling of an operand (30_encoding.md R65). -/
def operandText (op : Operand) : String :=
  match op with
  | .reg r => regText r
  | .ind r => "[" ++ regText r ++ "]"
  | .indOff r k => "[" ++ hex4 k ++ "+" ++ regText r ++ "]"
  | .pop => "POP"
  | .peek => "PEEK"
  | .push => "PUSH"
  | .sp => "SP"
  | .pc => "PC"
  | .o => "O"
  | .nw k => "[" ++ hex4 k ++ "]"
  | .lit k => hex4 k
  | .small v => hex2 v

/-- The text of an instruction, with a placeholder for an unknown opcode (30_encoding.md R65; 45_disassembler.md
R158). -/
def instrText (placeholder : String) (i : Instr) : String :=
  match i with
  | .set a b => "SET" ++ " " ++ operandText a ++ ", " ++ operandText b
  | .add a b => "ADD" ++ " " ++ operandText a ++ ", " ++ operandText b
  | .sub a b => "SUB" ++ " " ++ operandText a ++ ", " ++ operandText b
  | .mul a b => "MUL" ++ " " ++ operandText a ++ ", " ++ operandText b
  | .div a b => "DIV" ++ " " ++ operandText a ++ ", " ++ operandText b
  | .mod a b => "MOD" ++ " " ++ operandText a ++ ", " ++ operandText b
  | .shl a b => "SHL" ++ " " ++ operandText a ++ ", " ++ operandText b
  | .shr a b => "SHR" ++ " " ++ operandText a ++ ", " ++ operandText b
  | .and a b => "AND" ++ " " ++ operandText a ++ ", " ++ operandText b
  | .bor a b => "BOR" ++ " " ++ operandText a ++ ", " ++ operandText b
  | .xor a b => "XOR" ++ " " ++ operandText a ++ ", " ++ operandText b
  | .ife a b => "IFE" ++ " " ++ operandText a ++ ", " ++ operandText b
  | .ifn a b => "IFN" ++ " " ++ operandText a ++ ", " ++ operandText b
  | .ifg a b => "IFG" ++ " " ++ operandText a ++ ", " ++ operandText b
  | .ifb a b => "IFB" ++ " " ++ operandText a ++ ", " ++ operandText b
  | .jsr a => "JSR" ++ " " ++ operandText a
  | .unknownX00 a => placeholder ++ " " ++ operandText a
  | .unknownX02 a => placeholder ++ " " ++ operandText a
  | .unknownX03 a => placeholder ++ " " ++ operandText a
  | .unknownX04 a => placeholder ++ " " ++ operandText a
  | .unknownX05 a => placeholder ++ " " ++ operandText a
  | .unknownX06 a => placeholder ++ " " ++ operandText a
  | .unknownX07 a => placeholder ++ " " ++ operandText a
  | .unknownX08 a => placeholder ++ " " ++ operandText a
  | .unknownX09 a => placeholder ++ " " ++ operandText a
  | .unknownX0A a => placeholder ++ " " ++ operandText a
  | .unknownX0B a => placeholder ++ " " ++ operandText a
  | .unknownX0C a => placeholder ++ " " ++ operandText a
  | .unknownX0D a => placeholder ++ " " ++ operandText a
  | .unknownX0E a => placeholder ++ " " ++ operandText a
  | .unknownX0F a => placeholder ++ " " ++ operandText a
  | .unknownX10 a => placeholder ++ " " ++ operandText a
  | .unknownX11 a => placeholder ++ " " ++ operandText a
  | .unknownX12 a => placeholder ++ " " ++ operandText a
  | .unknownX13 a => placeholder ++ " " ++ operandText a
  | .unknownX14 a => placeholder ++ " " ++ operandText a
  | .unknownX15 a => placeholder ++ " " ++ operandText a
  | .unknownX16 a => placeholder ++ " " ++ operandText a
  | .unknownX17 a => placeholder ++ " " ++ operandText a
  | .unknownX18 a => placeholder ++ " " ++ operandText a
  | .unknownX19 a => placeholder ++ " " ++ operandText a
  | .unknownX1A a => placeholder ++ " " ++ operandText a
  | .unknownX1B a => placeholder ++ " " ++ operandText a
  | .unknownX1C a => placeholder ++ " " ++ operandText a
  | .unknownX1D a => placeholder ++ " " ++ operandText a
  | .unknownX1E a => placeholder ++ " " ++ operandText a
  | .unknownX1F a => placeholder ++ " " ++ operandText a
  | .unknownX20 a => placeholder ++ " " ++ operandText a
  | .unknownX21 a => placeholder ++ " " ++ operandText a
  | .unknownX22 a => placeholder ++ " " ++ operandText a
  | .unknownX23 a => placeholder ++ " " ++ operandText a
  | .unknownX24 a => placeholder ++ " " ++ operandText a
  | .unknownX25 a => placeholder ++ " " ++ operandText a
  | .unknownX26 a => placeholder ++ " " ++ operandText a
  | .unknownX27 a => placeholder ++ " " ++ operandText a
  | .unknownX28 a => placeholder ++ " " ++ operandText a
  | .unknownX29 a => placeholder ++ " " ++ operandText a
  | .unknownX2A a => placeholder ++ " " ++ operandText a
  | .unknownX2B a => placeholder ++ " " ++ operandText a
  | .unknownX2C a => placeholder ++ " " ++ operandText a
  | .unknownX2D a => placeholder ++ " " ++ operandText a
  | .unknownX2E a => placeholder ++ " " ++ operandText a
  | .unknownX2F a => placeholder ++ " " ++ operandText a
  | .unknownX30 a => placeholder ++ " " ++ operandText a
  | .unknownX31 a => placeholder ++ " " ++ operandText a
  | .unknownX32 a => placeholder ++ " " ++ operandText a
  | .unknownX33 a => placeholder ++ " " ++ operandText a
  | .unknownX34 a => placeholder ++ " " ++ operandText a
  | .unknownX35 a => placeholder ++ " " ++ operandText a
  | .unknownX36 a => placeholder ++ " " ++ operandText a
  | .unknownX37 a => placeholder ++ " " ++ operandText a
  | .unknownX38 a => placeholder ++ " " ++ operandText a
  | .unknownX39 a => placeholder ++ " " ++ operandText a
  | .unknownX3A a => placeholder ++ " " ++ operandText a
  | .unknownX3B a => placeholder ++ " " ++ operandText a
  | .unknownX3C a => placeholder ++ " " ++ operandText a
  | .unknownX3D a => placeholder ++ " " ++ operandText a
  | .unknownX3E a => placeholder ++ " " ++ operandText a
  | .unknownX3F a => placeholder ++ " " ++ operandText a

end Sys2Proof.Machine
end

