-- ==== Sys2Proof/Certificates/Slice0/Obligations.lean ====
section
/-! DEFINITION. The statements about the machine, for the provers. Each docstring names the rule of spec/ that it
follows, and the log entry where it rests on a choice. -/

open Sys2Proof
open Sys2Proof.Machine

/-- After reset every general register, PC, O and every memory cell is 0, SP is 0xFFFF and the skip flag is off
(10_state.md section 10; rule R190 there marks the command as the spec's own decision D25, and SP's value as D11). -/
def Obligations.ResetState : Prop :=
  (∀ r, State.reset.reg r = 0) ∧ State.reset.pc = 0 ∧ State.reset.o = 0 ∧ State.reset.sp = 0xFFFF ∧
  State.reset.skip = false ∧ ∀ a, State.reset.readMem a = 0

/-- The reset state meets the invariant. -/
def Obligations.ResetMemoryCanonical : Prop :=
  State.reset.wf = true

/-- Every step keeps the invariant, from every state that meets it. -/
def Obligations.StepKeepsMemoryCanonical : Prop :=
  ∀ (s t : State), s.wf = true → step s = .next t → t.wf = true

/-- Every host command and the image load keep the invariant. -/
def Obligations.HostCommandsKeepMemoryCanonical : Prop :=
  (∀ (c : Command) (s : State), s.wf = true → (obey c s).1.wf = true) ∧
  ∀ (image : List Byte) (s t : State), s.wf = true → loadImage image s = .next t → t.wf = true

/-- Memory is an array of cells: two memories in canonical form that read alike are equal data (log 11). -/
def Obligations.CanonicalMemoryIsUnique : Prop :=
  ∀ m m' : Memory, m.wf = true → m'.wf = true → (∀ a : Word, m.read a = m'.read a) → m = m'

/-- 20_memory.md R31: a store sets the addressed cell and changes nothing else, at any address. Neither access can fail:
both are total functions. -/
def Obligations.StoreSetsOneCell : Prop :=
  ∀ (s : State) (a v : Word), s.wf = true →
    (s.writeMem a v).readMem a = v ∧
    (∀ b, b ≠ a → (s.writeMem a v).readMem b = s.readMem b) ∧
    (∀ p, (∀ b, p ≠ .mem b) → (s.writeMem a v).look p = s.look p) ∧
    (s.writeMem a v).skip = s.skip

/-- Decoding the words of a well-formed instruction gives the instruction back and leaves what follows: no bit of an
encoding is dropped (30_encoding.md sections 1 to 3; the layout is the spec's own choice, log 4). -/
def Obligations.EncodeThenDecode : Prop :=
  ∀ (i : Instr) (rest : List Word), i.wellFormed = true → decode (encode i ++ rest) = .ok (i, rest)

/-- What the decoder reads, the encoder writes back, and it is well formed: each word has one meaning. -/
def Obligations.DecodeThenEncode : Prop :=
  ∀ (ws : List Word) (i : Instr) (rest : List Word), decode ws = .ok (i, rest) → encode i ++ rest = ws ∧ i.wellFormed = true

/-- The codes that consume an extra word, the length of the instruction at any address of any memory, and the addresses its
extra words come from, modulo 65536 (30_encoding.md R50, R54 and R57). That a's extra word comes first (R58, D5) and where
the operand codes stand in the first word (D1, D2) are the spec's own choice, from general knowledge (log 4). -/
def Obligations.LengthAndExtraWords : Prop :=
  (∀ (c : BitVec 6) (k : Word), (decodeOperand c k).extraWords =
    if (16 ≤ c.toNat ∧ c.toNat ≤ 23) ∨ c.toNat = 30 ∨ c.toNat = 31 then [k] else []) ∧
  ∀ (m : Memory) (a : Word),
    (instrAt m a).length = wordLength (m.read a) ∧
    1 ≤ (instrAt m a).length ∧
    (opcodeField (m.read a) = 0 → (instrAt m a).length ≤ 2) ∧
    (opcodeField (m.read a) ≠ 0 → (instrAt m a).length ≤ 3) ∧
    (instrAt m a).operands.flatMap Operand.extraWords =
      [m.read (a + 1), m.read (a + 2)].take ((instrAt m a).length - 1)

/-- Every word decodes, to an instruction with that word as its first, and exactly the words with `w[3:0] = 0` and
`w[9:4] ≠ 1` decode to an unknown opcode (30_encoding.md sections 3 and 4; the numbers are the spec's own choice, log 4). -/
def Obligations.EveryWordIsOneRow : Prop :=
  ∀ w k₁ k₂ : Word,
    (∃ i rest, decode [w, k₁, k₂] = .ok (i, rest)) ∧
    (decodeTriple w k₁ k₂).firstWord = w ∧
    (shapeOf (decodeTriple w k₁ k₂) = .unknown ↔ (opcodeField w = 0 ∧ middleField w ≠ 0x01))

/-- Words written out from the encodings of 30_encoding.md, one or more a family. -/
def Obligations.SampleWordsDecode : Prop :=
  decode [0x7C01, 0x0030] = .ok (.set (.reg .a) (.lit 0x0030), []) ∧
  decode [0x8803] = .ok (.sub (.reg .a) (.small 2), []) ∧
  decode [0x7DE1, 0x1000, 0x0020] = .ok (.set (.nw 0x1000) (.lit 0x0020), []) ∧
  decode [0x61C1] = .ok (.set .pc .pop, []) ∧
  decode [0xC00F] = .ok (.ifb (.reg .a) (.small 16), []) ∧
  decode [0x7C10, 0x1000] = .ok (.jsr (.lit 0x1000), []) ∧
  decode [0x4020, 0x0005] = .ok (.unknownX02 (.indOff .a 0x0005), []) ∧
  decode [0x0000] = .ok (.unknownX00 (.reg .a), [])

/-- A step runs the instruction that the words at PC decode to: it performs it, or passes over it if the skip flag is set. -/
def Obligations.StepRunsDecodedInstruction : Prop :=
  ∀ (s : State) (i : Instr) (rest : List Word), decode [s.readMem s.pc, s.readMem (s.pc + 1), s.readMem (s.pc + 2)] = .ok (i, rest) →
    (s.skip = false → step s = exec i s) ∧
    (s.skip = true → step s = .next ((s.setPc (s.pc + BitVec.ofNat 16 i.length)).setSkip false))

/-- The model's own way of placing an instruction (log 14): the next step performs exactly it, and nothing else changes but
the three cells at PC and the skip flag. -/
def Obligations.PlacedInstructionIsRun : Prop :=
  ∀ (s : State) (nbits w : Nat) (i : Instr), s.wf = true → decodeTableWord nbits w = some i →
    step (s.withFetchWord nbits w) = exec i (s.withFetchWord nbits w) ∧
    (s.withFetchWord nbits w).skip = false ∧
    (∀ p, p ≠ .mem s.pc → p ≠ .mem (s.pc + 1) → p ≠ .mem (s.pc + 2) →
      (s.withFetchWord nbits w).look p = s.look p)

/-- The step, at every value of the parameters, is the sequence of stages that the pseudocode of 40_fetch_decode_step.md R70
numbers, on raw operand codes and a next-word pointer. Both sides make the spec's own choices and the statement says
nothing for another: the layout and the opcode numbers (D1 to D5, log 4), what the conditions and the bitwise operations
are (D6, D17, log 5), the order of resolution and of the reads (D7, D8, D24, log 10), a skipped unknown opcode and no
chaining of skips (D12, D32, logs 6 and 17), what Fatal carries and leaves (D13, log 7), unbounded unsigned
intermediates (D15, D16, log 8), O written beside a literal (D18, log 9). The last clause is at the model's default
parameters (D10, log 1; D9, log 2). -/
def Obligations.StepFollowsPseudocode : Prop :=
  (∀ (p : Config.Params) (s : State), stepWith p s = referenceStep p s) ∧ ∀ s : State, step s = referenceStep params s

/-- The one abnormal outcome, and when it occurs: a step always answers Done or Fatal, never a refusal (60_exceptions.md
sections 1, 4 and 12; what Fatal carries is the spec's own choice D13, log 7, and that a skipped word is no Fatal is D12,
log 6). -/
def Obligations.FatalExactlyOnIllegalWord : Prop :=
  ∀ s : State, (s.fatalNext = true → step s = .fault (.unknownOpcode s.pc (s.readMem s.pc))) ∧
    (s.fatalNext = false → ∃ t, step s = .next t)

/-- After Fatal the state is exactly the state before the step (60_exceptions.md R172). That Fatal changes no state and
carries the address and the word (R170, 40_fetch_decode_step.md R78; D13) is the spec's own choice, log 7; which words
are illegal rests on log 4. -/
def Obligations.FatalChangesNothing : Prop :=
  ∀ (s t : State) (pc w : Word), obey .step s = (t, .fatal pc w) →
    t = s ∧ pc = t.pc ∧ w = t.readMem t.pc ∧ t.skip = false ∧ illegalWord w = true

/-- The 63 unknown extended opcodes, each with any operand: performing it is Fatal (44_extended.md section 2;
60_exceptions.md section 1; the payload is the spec's own choice D13, log 7). -/
def Obligations.UnknownOpcodesAreFatal : Prop :=
  ∀ e ∈ unknownOpcodes, ∀ (a : Operand) (s : State),
    exec (e.2 a) s = .fault (.unknownOpcode s.pc (extendedWord e.1 a.code))

/-- A skipping step, whatever word it meets, moves PC past the word and its extra words, clears the flag and does nothing
else (40_fetch_decode_step.md R76, R77). That an unknown opcode is passed over too (D12, log 6) and that a skipped
conditional does not skip again (D32, log 17) are the spec's own choice, and the length rests on the layout (log 4). -/
def Obligations.SkippedInstructionOnlyAdvances : Prop :=
  ∀ s : State, s.skip = true →
    step s = .next ((s.setPc (s.pc + BitVec.ofNat 16 (wordLength (s.readMem s.pc)))).setSkip false)

/-- 41_operand_resolver.md R94: what the three pre-effects do, that a performed basic instruction fires those of both its
operands, whatever it does with them, and that a skipping step fires none. -/
def Obligations.PreEffectsFireOncePerOperand : Prop :=
  (∀ s : State, firePreEffect .none s = s ∧ firePreEffect .incSp s = s.setSp (s.sp + 1) ∧
    firePreEffect .decSp s = s.setSp (s.sp - 1)) ∧
  (∀ (op : Operand) (s : State), (resolve op s).pre = (match op with | .pop => .incSp | .push => .decSp | _ => .none)) ∧
  (∀ (i : Instr) (a b : Operand) (s t : State), i.operands = [a, b] → exec i s = .next t → destinationOf i s ≠ some .sp → t.sp = spAfter a b s) ∧
  (∀ (a : Operand) (s t : State), exec (.jsr a) s = .next t → t.sp = spMove a s.sp - 1) ∧
  (∀ (s t : State), s.skip = true → step s = .next t → t.sp = s.sp)

/-- The resolver on decoded operands gives what the spec's table of results gives on raw codes (41_operand_resolver.md
section 3). -/
def Obligations.ResolverMatchesTable : Prop :=
  ∀ (c : BitVec 6) (nw : Word) (s : State),
    resolveCode c nw s =
      ((resolve (decodeOperand c (s.readMem nw)) s).acc, (resolve (decodeOperand c (s.readMem nw)) s).pre,
        nw + BitVec.ofNat 16 (decodeOperand c (s.readMem nw)).extra)

/-- 42_basic_alu.md R110, for every operand form, with its frame: every place but operand a's, PC and SP is as before.
The opcode number rests on log 4. -/
def Obligations.SetCopiesSource : Prop :=
  ∀ (a b : Operand) (s : State), s.wf = true →
    opcodeField (Instr.firstWord (.set a b)) = 1 ∧
    ∃ t, exec (.set a b) s = .next t ∧
      WritesResult (.set a b)
        (fun _ vb => vb)
        a b s t

/-- 42_basic_alu.md R111, for every operand form, with its frame: every place but operand a's, O, PC and SP is as before.
The opcode number rests on log 4, the order of the two writes to O on log 2. -/
def Obligations.AddWritesSumAndCarry : Prop :=
  ∀ (a b : Operand) (s : State), s.wf = true →
    opcodeField (Instr.firstWord (.add a b)) = 2 ∧
    ∃ t, exec (.add a b) s = .next t ∧
      WritesResultAndO (.add a b)
        (fun va vb => va + vb)
        (fun va vb => if va.toNat + vb.toNat ≥ 65536 then 1 else 0)
        a b s t

/-- 42_basic_alu.md R112, for every operand form, with its frame: every place but operand a's, O, PC and SP is as before.
The opcode number rests on log 4, the order of the two writes to O on log 2. -/
def Obligations.SubWritesDifferenceAndBorrow : Prop :=
  ∀ (a b : Operand) (s : State), s.wf = true →
    opcodeField (Instr.firstWord (.sub a b)) = 3 ∧
    ∃ t, exec (.sub a b) s = .next t ∧
      WritesResultAndO (.sub a b)
        (fun va vb => va - vb)
        (fun va vb => if va.toNat < vb.toNat then 0xFFFF else 0)
        a b s t

/-- 42_basic_alu.md R113, for every operand form, with its frame: every place but operand a's, O, PC and SP is as before.
The opcode number rests on log 4, the order of the two writes to O on log 2, the width of the product on log 8. -/
def Obligations.MulWritesLowAndHighWord : Prop :=
  ∀ (a b : Operand) (s : State), s.wf = true →
    opcodeField (Instr.firstWord (.mul a b)) = 4 ∧
    ∃ t, exec (.mul a b) s = .next t ∧
      WritesResultAndO (.mul a b)
        (fun va vb => va * vb)
        (fun va vb => BitVec.ofNat 16 (va.toNat * vb.toNat / 65536))
        a b s t

/-- 42_basic_alu.md R114, for every operand form, with its frame: every place but operand a's, O, PC and SP is as before.
`/` of words is unsigned and gives 0 for a zero divisor. The opcode number rests on log 4, the order of the two writes to O
on log 2, the widths on log 8. -/
def Obligations.DivWritesQuotientAndFraction : Prop :=
  ∀ (a b : Operand) (s : State), s.wf = true →
    opcodeField (Instr.firstWord (.div a b)) = 5 ∧
    ∃ t, exec (.div a b) s = .next t ∧
      WritesResultAndO (.div a b)
        (fun va vb => va / vb)
        (fun va vb => if vb = 0 then 0 else BitVec.ofNat 16 (va.toNat * 65536 / vb.toNat))
        a b s t

/-- 42_basic_alu.md R115, for every operand form, with its frame: every place but operand a's, PC and SP is as before.
The opcode number rests on log 4, the signedness on log 8. -/
def Obligations.ModWritesRemainder : Prop :=
  ∀ (a b : Operand) (s : State), s.wf = true →
    opcodeField (Instr.firstWord (.mod a b)) = 6 ∧
    ∃ t, exec (.mod a b) s = .next t ∧
      WritesResult (.mod a b)
        (fun va vb => if vb = 0 then 0 else va % vb)
        a b s t

/-- 42_basic_alu.md R116, for every operand form, with its frame: every place but operand a's, O, PC and SP is as before.
The opcode number rests on log 4, the order of the two writes to O on log 2, the full count on log 8. -/
def Obligations.ShlWritesShiftedAndHighBits : Prop :=
  ∀ (a b : Operand) (s : State), s.wf = true →
    opcodeField (Instr.firstWord (.shl a b)) = 7 ∧
    ∃ t, exec (.shl a b) s = .next t ∧
      WritesResultAndO (.shl a b)
        (fun va vb => BitVec.ofNat 16 (va.toNat * 2 ^ vb.toNat))
        (fun va vb => BitVec.ofNat 16 (va.toNat * 2 ^ vb.toNat / 65536))
        a b s t

/-- 42_basic_alu.md R117, for every operand form, with its frame: every place but operand a's, O, PC and SP is as before.
The opcode number rests on log 4, the order of the two writes to O on log 2, the full count on log 8. -/
def Obligations.ShrWritesShiftedAndLowBits : Prop :=
  ∀ (a b : Operand) (s : State), s.wf = true →
    opcodeField (Instr.firstWord (.shr a b)) = 8 ∧
    ∃ t, exec (.shr a b) s = .next t ∧
      WritesResultAndO (.shr a b)
        (fun va vb => BitVec.ofNat 16 (va.toNat / 2 ^ vb.toNat))
        (fun va vb => BitVec.ofNat 16 (va.toNat * 65536 / 2 ^ vb.toNat))
        a b s t

/-- 42_basic_alu.md R118, for every operand form, with its frame: every place but operand a's, PC and SP is as before.
The opcode number rests on log 4, the operation on log 5. -/
def Obligations.AndWritesConjunction : Prop :=
  ∀ (a b : Operand) (s : State), s.wf = true →
    opcodeField (Instr.firstWord (.and a b)) = 9 ∧
    ∃ t, exec (.and a b) s = .next t ∧
      WritesResult (.and a b)
        (fun va vb => va &&& vb)
        a b s t

/-- 42_basic_alu.md R119, for every operand form, with its frame: every place but operand a's, PC and SP is as before.
The opcode number rests on log 4, the operation on log 5. -/
def Obligations.BorWritesDisjunction : Prop :=
  ∀ (a b : Operand) (s : State), s.wf = true →
    opcodeField (Instr.firstWord (.bor a b)) = 10 ∧
    ∃ t, exec (.bor a b) s = .next t ∧
      WritesResult (.bor a b)
        (fun va vb => va ||| vb)
        a b s t

/-- 42_basic_alu.md R120, for every operand form, with its frame: every place but operand a's, PC and SP is as before.
The opcode number rests on log 4, the operation on log 5. -/
def Obligations.XorWritesExclusiveOr : Prop :=
  ∀ (a b : Operand) (s : State), s.wf = true →
    opcodeField (Instr.firstWord (.xor a b)) = 11 ∧
    ∃ t, exec (.xor a b) s = .next t ∧
      WritesResult (.xor a b)
        (fun va vb => va ^^^ vb)
        a b s t

/-- 43_conditional.md R130 and R131, for every operand form, with its frame: nothing but the skip flag, PC and SP changes.
The condition and the opcode number are the spec's own choice (D6, D3; log 5, 4). -/
def Obligations.IfeSkipsUnlessEqual : Prop :=
  ∀ (a b : Operand) (s : State),
    opcodeField (Instr.firstWord (.ife a b)) = 12 ∧
    ∃ t, exec (.ife a b) s = .next t ∧ SetsSkip (.ife a b) (fun va vb => va = vb) a b s t

/-- 43_conditional.md R130 and R132, for every operand form, with its frame: nothing but the skip flag, PC and SP changes.
The condition and the opcode number are the spec's own choice (D6, D3; log 5, 4). -/
def Obligations.IfnSkipsUnlessDifferent : Prop :=
  ∀ (a b : Operand) (s : State),
    opcodeField (Instr.firstWord (.ifn a b)) = 13 ∧
    ∃ t, exec (.ifn a b) s = .next t ∧ SetsSkip (.ifn a b) (fun va vb => va ≠ vb) a b s t

/-- 43_conditional.md R130 and R133, for every operand form, with its frame: nothing but the skip flag, PC and SP changes.
The condition and the opcode number are the spec's own choice (D6, D3; log 5, 4). -/
def Obligations.IfgSkipsUnlessGreater : Prop :=
  ∀ (a b : Operand) (s : State),
    opcodeField (Instr.firstWord (.ifg a b)) = 14 ∧
    ∃ t, exec (.ifg a b) s = .next t ∧ SetsSkip (.ifg a b) (fun va vb => va.toNat > vb.toNat) a b s t

/-- 43_conditional.md R130 and R134, for every operand form, with its frame: nothing but the skip flag, PC and SP changes.
The condition and the opcode number are the spec's own choice (D6, D3; log 5, 4). -/
def Obligations.IfbSkipsUnlessCommonBit : Prop :=
  ∀ (a b : Operand) (s : State),
    opcodeField (Instr.firstWord (.ifb a b)) = 15 ∧
    ∃ t, exec (.ifb a b) s = .next t ∧ SetsSkip (.ifb a b) (fun va vb => ∃ n, n < 16 ∧ va.getLsbD n = true ∧ vb.getLsbD n = true) a b s t

/-- 44_extended.md R140 with JSR_SP_STEP at the spec's default, minus one (D10, 90_conflicts.md C2; log 1), for every operand
form, with its frame. The opcode number rests on log 4. -/
def Obligations.JsrPushesReturnAddressAndJumps : Prop :=
  ∀ (a : Operand) (s : State), s.wf = true →
    Instr.firstWord (.jsr a) = extendedWord 0x01 a.code ∧
    ∃ t, exec (.jsr a) s = .next t ∧ Calls 0xFFFF a s t

/-- 44_extended.md R140 and R141 at every value of JSR_SP_STEP, the literal reading 0x0001 included. -/
def Obligations.JsrAtEveryStep : Prop :=
  ∀ (p : Config.Params) (a : Operand) (s : State), s.wf = true → ∃ t, execWith p (.jsr a) s = .next t ∧ Calls p.jsrSpStep a s t

/-- 42_basic_alu.md R123: ADD, SUB, MUL, DIV, SHL, SHR with destination O, at both values of DEST_O_ORDER (log 2). -/
def Obligations.DestinationOAtEveryOrder : Prop :=
  ∀ e ∈ ([(.add, addResult, addO), (.sub, subResult, subO), (.mul, mulResult, mulO), (.div, divResult, divO),
      (.shl, shlResult, shlO), (.shr, shrResult, shrO)] :
      List ((Operand → Operand → Instr) × (Word → Word → Word) × (Word → Word → Word))),
    ∀ (p : Config.Params) (b : Operand) (s : State),
      let i := e.1 .o b
      let vb := valueOf b s (pcAfter i s) (spAfter .o b s)
      ∃ t, execWith p i s = .next t ∧
        (p.destOOrder = .resultThenO → t.o = e.2.2 s.o vb) ∧
        (p.destOOrder = .oThenResult → t.o = e.2.1 s.o vb)

/-- The machine runs at the spec's default parameters (00_scope.md section 4; the model's choice, log 1, 2, 3). -/
def Obligations.MachineIsDefaultInstance : Prop :=
  params = Config.specDefault ∧ (∀ (i : Instr) (s : State), execWith Config.specDefault i s = exec i s) ∧
  ∀ s : State, stepWith Config.specDefault s = step s

/-- The closed forms of 42_basic_alu.md R116 and R117 for every count (the full count is the spec's own choice D15, log 8). -/
def Obligations.ShiftClosedForms : Prop :=
  ∀ va vb : Word,
    (vb.toNat ≤ 15 → shlResult va vb = va <<< vb.toNat ∧ shlO va vb = va >>> (16 - vb.toNat)) ∧
    (16 ≤ vb.toNat → vb.toNat ≤ 31 → shlResult va vb = 0 ∧ shlO va vb = va <<< (vb.toNat - 16)) ∧
    (vb.toNat ≤ 16 → shrResult va vb = va >>> vb.toNat ∧ shrO va vb = va <<< (16 - vb.toNat)) ∧
    (17 ≤ vb.toNat → vb.toNat ≤ 31 → shrResult va vb = 0 ∧ shrO va vb = va >>> (vb.toNat - 16)) ∧
    (32 ≤ vb.toNat → shlResult va vb = 0 ∧ shlO va vb = 0 ∧ shrResult va vb = 0 ∧ shrO va vb = 0)

/-- The O values complete the 16-bit results to exact arithmetic (42_basic_alu.md sections 1 and 2; widths and signedness:
log 8). -/
def Obligations.OverflowRegisterMakesArithmeticExact : Prop :=
  ∀ va vb : Word,
    (addO va vb).toNat * 65536 + (addResult va vb).toNat = va.toNat + vb.toNat ∧
    (subResult va vb).toNat + vb.toNat = va.toNat + (if subO va vb = 0xFFFF then 65536 else 0) ∧
    (subO va vb = 0 ∨ subO va vb = 0xFFFF) ∧
    (mulO va vb).toNat * 65536 + (mulResult va vb).toNat = va.toNat * vb.toNat ∧
    (vb ≠ 0 → (divResult va vb).toNat * 65536 + (divO va vb).toNat = va.toNat * 65536 / vb.toNat) ∧
    (vb ≠ 0 → (divResult va vb).toNat * vb.toNat + (modResult va vb).toNat = va.toNat ∧
      (modResult va vb).toNat < vb.toNat) ∧
    (vb = 0 → divResult va vb = 0 ∧ divO va vb = 0 ∧ modResult va vb = 0)

/-- A literal destination discards the write, and the rest of the instruction happens (30_encoding.md section 4;
42_basic_alu.md section 2; that O is still written is the spec's own choice D18, log 9). -/
def Obligations.LiteralDestinationDiscards : Prop :=
  ∀ (i : Instr) (a b : Operand) (s t : State), i.operands = [a, b] → placeOf a s = none → exec i s = .next t →
    t.regs = s.regs ∧ t.mem = s.mem ∧ t.pc = pcAfter i s ∧ t.sp = spAfter a b s ∧
    (shapeOf i ≠ .resultAndO → t.o = s.o) ∧ (shapeOf i ≠ .test → t.skip = s.skip)

/-- 41_operand_resolver.md R101: both stack operands of one instruction are resolved from the same SP (the spec's own
choice D7, log 10). -/
def Obligations.TwoStackOperands : Prop :=
  ∀ s : State, s.wf = true →
    (∃ t, exec (.set .push .pop) s = .next t ∧ t.sp = s.sp ∧
      ∀ x, t.readMem x = if x = s.sp - 1 then s.readMem s.sp else s.readMem x) ∧
    (∃ t, exec (.add .pop .pop) s = .next t ∧ t.sp = s.sp + 2 ∧
      ∀ x, t.readMem x = if x = s.sp then s.readMem s.sp + s.readMem s.sp else s.readMem x) ∧
    (∃ t, exec (.set .peek .pop) s = .next t ∧ t.sp = s.sp + 1 ∧ ∀ x, t.readMem x = s.readMem x)

/-- The source's property of 41_operand_resolver.md R100: push, then pop in a later step. -/
def Obligations.PushThenPopRoundTrips : Prop :=
  ∀ (r q : Reg) (s : State), s.wf = true →
    ∃ t u, exec (.set .push (.reg r)) s = .next t ∧ exec (.set (.reg q) .pop) t = .next u ∧
      t.sp = s.sp - 1 ∧ t.readMem (s.sp - 1) = s.reg r ∧ u.reg q = s.reg r ∧ u.sp = s.sp

/-- 44_extended.md R142: `SET PC, POP` right after JSR goes back to the instruction after it (with JSR_SP_STEP at its default,
log 1). -/
def Obligations.CallThenReturn : Prop :=
  ∀ (a : Operand) (s t : State), s.wf = true → exec (.jsr a) s = .next t →
    ∃ u, exec (.set .pc .pop) t = .next u ∧ u.pc = pcAfter (.jsr a) s ∧ u.sp = spMove a s.sp ∧
      u.regs = s.regs ∧ u.o = s.o ∧ u.skip = s.skip

/-- The nine corner cases of 44_extended.md R143, with JSR_SP_STEP at its default (log 1). -/
def Obligations.JsrCornerCases : Prop :=
  ∀ s : State, s.wf = true →
    (∀ r, ∃ t, exec (.jsr (.reg r)) s = .next t ∧ t.pc = s.reg r ∧ t.sp = s.sp - 1 ∧
      t.readMem (s.sp - 1) = s.pc + 1) ∧
    (∀ r, s.reg r = s.sp - 1 → ∃ t, exec (.jsr (.ind r)) s = .next t ∧ t.pc = s.pc + 1) ∧
    (∃ t, exec (.jsr (.nw (s.sp - 1))) s = .next t ∧ t.pc = s.pc + 2) ∧
    (∃ t, exec (.jsr .pop) s = .next t ∧ t.pc = s.pc + 1 ∧ t.sp = s.sp ∧ t.readMem s.sp = s.pc + 1) ∧
    (∃ t, exec (.jsr .peek) s = .next t ∧ t.pc = s.readMem s.sp ∧ t.sp = s.sp - 1 ∧
      t.readMem (s.sp - 1) = s.pc + 1) ∧
    (∃ t, exec (.jsr .push) s = .next t ∧ t.pc = s.readMem (s.sp - 1) ∧ t.sp = s.sp - 2 ∧
      t.readMem (s.sp - 2) = s.pc + 1) ∧
    (∃ t, exec (.jsr .sp) s = .next t ∧ t.pc = s.sp - 1) ∧
    (∃ t, exec (.jsr .pc) s = .next t ∧ t.pc = s.pc + 1 ∧ t.sp = s.sp - 1 ∧ t.readMem (s.sp - 1) = s.pc + 1) ∧
    (∀ v, ∃ t, exec (.jsr (.small v)) s = .next t ∧ t.pc = v) ∧
    (s.sp = 0 → ∀ r, ∃ t, exec (.jsr (.reg r)) s = .next t ∧ t.readMem 0xFFFF = s.pc + 1)

/-- The skip flag is set by no instruction but IFE, IFN, IFG, IFB (10_state.md section 5). -/
def Obligations.SkipFlagOnlySetByConditionals : Prop :=
  (∀ (i : Instr) (s t : State), exec i s = .next t → s.skip = false → t.skip = true → shapeOf i = .test) ∧
  (∀ (s t : State), step s = .next t → t.skip = true → s.skip = false ∧ shapeOf (fetch s) = .test)

/-- 10_state.md R21, over all instructions: O changes as a side effect of six instructions only. -/
def Obligations.OverflowRegisterOnlyWrittenBySix : Prop :=
  ∀ (i : Instr) (s t : State), exec i s = .next t → shapeOf i ≠ .resultAndO → destinationOf i s ≠ some .o → t.o = s.o

/-- The frame of every instruction over general registers and memory: at most one of them changes, the one computed as the
destination (for JSR the cell below SP, with JSR_SP_STEP at its default, log 1). -/
def Obligations.InstructionsWriteOnlyTheirDestination : Prop :=
  ∀ (i : Instr) (s t : State), s.wf = true → exec i s = .next t →
    (∀ r, destinationOf i s ≠ some (.reg r) → t.reg r = s.reg r) ∧
    (∀ addr, destinationOf i s ≠ some (.mem addr) → t.readMem addr = s.readMem addr)

/-- 10_state.md R15 and R18, over all instructions. -/
def Obligations.PcAdvancesPastInstruction : Prop :=
  ∀ (i : Instr) (s t : State), exec i s = .next t → shapeOf i ≠ .call → destinationOf i s ≠ some .pc →
    t.pc = s.pc + BitVec.ofNat 16 (1 + (i.operands.map Operand.extra).sum)

/-- The disassembler, which walks the codes by itself, prints the decoded instruction and gives the address after it, at every
address of every memory (45_disassembler.md sections 1 and 2). The text format and the advance over an unknown opcode are the
spec's own choice (D20, D21, log 3); the layout that both walk is log 4. -/
def Obligations.TwoDecodersAgree : Prop :=
  ∀ (placeholder : String) (m : Memory) (addr : Word),
    disasmWith placeholder m addr =
      (instrText placeholder (instrAt m addr), addr + BitVec.ofNat 16 (instrAt m addr).length)

/-- The next address of the disassembler is the value that the step gives PC at stage 3 (skipping) or stage 5 (performing,
before the executor runs); an unknown opcode is Fatal for the step and a placeholder for the disassembler
(40_fetch_decode_step.md R83, 45_disassembler.md R160). The token and the advance over an unknown opcode (D20, D21, log 3),
that a skipped one is passed over (D12, log 6) and what Fatal carries (D13, log 7) are the spec's own choice, and the
layout is log 4. -/
def Obligations.DisassemblerAgreesWithStep : Prop :=
  ∀ s : State,
    (s.skip = true → ∃ t, step s = .next t ∧ t.pc = (disasm s.mem s.pc).2) ∧
    (∀ a b, (fetch s).operands = [a, b] → (prepareBasic a b s).pc = (disasm s.mem s.pc).2) ∧
    (∀ a, (fetch s).operands = [a] → (prepareExtended a s).pc = (disasm s.mem s.pc).2) ∧
    (∀ t, s.skip = false → step s = .next t → shapeOf (fetch s) ≠ .call → destinationOf (fetch s) s ≠ some .pc →
      t.pc = (disasm s.mem s.pc).2) ∧
    (s.fatalNext = true → step s = .fault (.unknownOpcode s.pc (s.readMem s.pc)) ∧
      ∃ operand, (disasm s.mem s.pc).1 = params.disasmPlaceholder ++ " " ++ operand)

/-- 20_memory.md R34: the image is a sequence of big-endian words from address 0, an odd trailing byte dropped. Images of more
than 65536 words are outside the spec (log 15). -/
def Obligations.ImageLoadIsBigEndian : Prop :=
  ∀ image : List Byte, image.length ≤ 131073 →
    ∃ t, loadImage image State.reset = .next t ∧
      (∀ k, 2 * k + 1 < image.length →
        t.readMem (BitVec.ofNat 16 k) =
          BitVec.ofNat 16 ((image.getD (2 * k) 0).toNat * 256 + (image.getD (2 * k + 1) 0).toNat)) ∧
      (∀ k, k < 65536 → image.length ≤ 2 * k + 1 → t.readMem (BitVec.ofNat 16 k) = 0) ∧
      (∀ p, (∀ a, p ≠ .mem a) → t.look p = State.reset.look p) ∧ t.skip = false

/-- Between steps the host may read and write every piece of state (70_reset_and_hazards.md section 3; the command set is the
spec's own abstraction D22, D28, log 15). -/
def Obligations.HostReadsWhatItWrote : Prop :=
  ∀ (p q : Place) (v : Word) (s : State), s.wf = true →
    (obey (.read q) (obey (.write p v) s).1).2 = .word (if q = p then v else s.look q) ∧
    (obey .readSkip (obey (.write p v) s).1).2 = .flag s.skip ∧
    (∀ b, (obey .readSkip (obey (.writeSkip b) s).1).2 = .flag b ∧
      (obey (.read q) (obey (.writeSkip b) s).1).2 = .word (s.look q)) ∧
    (obey (.read q) s).1 = s ∧ ∀ addr, (obey (.disasm addr) s).1 = s

/-- 20_memory.md R43: a store into the instruction stream is seen by the very next fetch. -/
def Obligations.StoreIsFetchedNext : Prop :=
  ∀ (s : State) (v : Word), s.wf = true →
    ∃ t, exec (.set (.nw (s.pc + 3)) (.lit v)) s = .next t ∧
      fetch t = decodeTriple v (s.readMem (s.pc + 4)) (s.readMem (s.pc + 5))
end

