-- ==== Sys2Proof/Laws/Decode.lean ====
section
/-! SUPPORT. The fields of the instruction word and the operand codes: each lemma says one of them once. -/

namespace Sys2Proof

open Sys2Proof.Machine

/-! ## Fields as numbers -/

theorem opcodeField_toNat (w : Word) : (opcodeField w).toNat = w.toNat % 16 := by
  simp [opcodeField]

theorem middleField_toNat (w : Word) : (middleField w).toNat = w.toNat / 16 % 64 := by
  simp [middleField, Nat.shiftRight_eq_div_pow]

theorem upperField_toNat (w : Word) : (upperField w).toNat = w.toNat / 1024 := by
  have := w.isLt
  simp only [upperField, BitVec.extractLsb'_toNat, Nat.shiftRight_eq_div_pow]
  omega

theorem basicWord_toNat (o : BitVec 4) (a b : BitVec 6) :
    (basicWord o a b).toNat = b.toNat * 1024 + a.toNat * 16 + o.toNat := by
  have ho := o.isLt
  have ha := a.isLt
  simp only [basicWord, BitVec.toNat_append]
  rw [← Nat.shiftLeft_add_eq_or_of_lt (by omega), ← Nat.shiftLeft_add_eq_or_of_lt (by omega)]
  omega

/-- An extended word is a basic word whose opcode is the sentinel 0 (30_encoding.md R53). -/
theorem extendedWord_eq (x a : BitVec 6) : extendedWord x a = basicWord 0 x a := rfl

/-! ## Fields of an assembled word, and the word of its fields -/

@[simp] theorem opcodeField_basicWord (o : BitVec 4) (a b : BitVec 6) : opcodeField (basicWord o a b) = o := by
  have ho := o.isLt
  apply BitVec.eq_of_toNat_eq
  rw [opcodeField_toNat, basicWord_toNat]
  omega

@[simp] theorem middleField_basicWord (o : BitVec 4) (a b : BitVec 6) : middleField (basicWord o a b) = a := by
  have ho := o.isLt
  have ha := a.isLt
  apply BitVec.eq_of_toNat_eq
  rw [middleField_toNat, basicWord_toNat]
  omega

@[simp] theorem upperField_basicWord (o : BitVec 4) (a b : BitVec 6) : upperField (basicWord o a b) = b := by
  have ho := o.isLt
  have ha := a.isLt
  apply BitVec.eq_of_toNat_eq
  rw [upperField_toNat, basicWord_toNat]
  omega

/-- A word is assembled from its fields. -/
theorem basicWord_fields (w : Word) : basicWord (opcodeField w) (middleField w) (upperField w) = w := by
  apply BitVec.eq_of_toNat_eq
  rw [basicWord_toNat, opcodeField_toNat, middleField_toNat, upperField_toNat]
  omega

/-! ## Operand codes -/

@[simp] theorem Reg.ofNumber_number (r : Reg) : Reg.ofNumber r.number = r := by
  cases r <;> rfl

/-- A code decodes to an operand of that code (30_encoding.md R55). -/
theorem decodeOperand_has_code (c : BitVec 6) (k : Word) : (decodeOperand c k).code = c := by
  obtain ⟨⟨n, hn⟩⟩ := c
  have hn : n < 64 := hn
  interval_cases n <;> rfl

/-- A code consumes as many extra words as the spec's `extra(c)` says (30_encoding.md R54, R57). -/
theorem decodeOperand_extra (c : BitVec 6) (k : Word) : (decodeOperand c k).extra = codeExtra c := by
  obtain ⟨⟨n, hn⟩⟩ := c
  have hn : n < 64 := hn
  interval_cases n <;> rfl

/-- The extra word of a decoded operand is the next unread word (30_encoding.md R57). -/
theorem decodeOperand_extraWords (c : BitVec 6) (k : Word) :
    (decodeOperand c k).extraWords = if codeExtra c = 1 then [k] else [] := by
  obtain ⟨⟨n, hn⟩⟩ := c
  have hn : n < 64 := hn
  interval_cases n <;> rfl

/-- A decoded operand is well formed (30_encoding.md R56). -/
theorem decodeOperand_wellFormed (c : BitVec 6) (k : Word) : (decodeOperand c k).wellFormed = true := by
  obtain ⟨⟨n, hn⟩⟩ := c
  have hn : n < 64 := hn
  interval_cases n <;> rfl

/-- A well-formed operand is what its code decodes to, given its extra word. -/
theorem decodeOperand_of_code (op : Operand) (h : op.wellFormed = true) (k : Word)
    (hk : op.extraWords = [] ∨ op.extraWords = [k]) : decodeOperand op.code k = op := by
  cases op with
  | small v =>
    obtain ⟨⟨n, hn⟩⟩ := v
    have hv : n < 32 := by simpa [Operand.wellFormed] using h
    interval_cases n <;> rfl
  | reg r => cases r <;> rfl
  | ind r => cases r <;> rfl
  | indOff r j =>
    obtain rfl : j = k := by simpa [Operand.extraWords] using hk
    cases r <;> rfl
  | nw j =>
    obtain rfl : j = k := by simpa [Operand.extraWords] using hk
    rfl
  | lit j =>
    obtain rfl : j = k := by simpa [Operand.extraWords] using hk
    rfl
  | pop => rfl
  | peek => rfl
  | push => rfl
  | sp => rfl
  | pc => rfl
  | o => rfl

/-- An operand consumes at most one extra word (30_encoding.md R57). -/
theorem Operand.extra_le_one (op : Operand) : op.extra ≤ 1 := by
  cases op <;> simp [Operand.extra, Operand.extraWords]

/-- Every opcode of the extended format selects an instruction with that opcode and that one operand
(30_encoding.md R53, R60). -/
theorem decodeExtended_spec (x : BitVec 6) (a : Operand) :
    (decodeExtended x a).firstWord = extendedWord x a.code ∧ (decodeExtended x a).operands = [a] := by
  obtain ⟨⟨n, hn⟩⟩ := x
  have hn : n < 64 := hn
  interval_cases n <;> exact ⟨rfl, rfl⟩

/-- Every opcode of the basic format selects an instruction with that opcode and those two operands
(30_encoding.md R52, R59, R61). -/
theorem decodeBasic_spec (o : BitVec 4) (a b : Operand) (ho : o ≠ 0) :
    (decodeBasic o a b).firstWord = basicWord o a.code b.code ∧ (decodeBasic o a b).operands = [a, b] := by
  obtain ⟨⟨n, hn⟩⟩ := o
  have hn : n < 16 := hn
  interval_cases n
  · exact absurd rfl ho
  all_goals exact ⟨rfl, rfl⟩

end Sys2Proof
end

