-- ==== Sys2Proof/Laws/State.lean ====
section
/-! SUPPORT. The small lemmas of the state's named operations: one per field per update. -/

namespace Sys2Proof.Machine

@[simp] theorem State.setReg_regs (s : State) (r : Reg) (v : Word) : (s.setReg r v).regs = s.regs.set r v := rfl
@[simp] theorem State.setReg_pc (s : State) (r : Reg) (v : Word) : (s.setReg r v).pc = s.pc := rfl
@[simp] theorem State.setReg_sp (s : State) (r : Reg) (v : Word) : (s.setReg r v).sp = s.sp := rfl
@[simp] theorem State.setReg_o (s : State) (r : Reg) (v : Word) : (s.setReg r v).o = s.o := rfl
@[simp] theorem State.setReg_skip (s : State) (r : Reg) (v : Word) : (s.setReg r v).skip = s.skip := rfl
@[simp] theorem State.setReg_mem (s : State) (r : Reg) (v : Word) : (s.setReg r v).mem = s.mem := rfl
@[simp] theorem State.setReg_readMem (s : State) (r : Reg) (v : Word) (q : Word) : (s.setReg r v).readMem q = s.readMem q := rfl

@[simp] theorem State.setPc_regs (s : State) (v : Word) : (s.setPc v).regs = s.regs := rfl
@[simp] theorem State.setPc_pc (s : State) (v : Word) : (s.setPc v).pc = v := rfl
@[simp] theorem State.setPc_sp (s : State) (v : Word) : (s.setPc v).sp = s.sp := rfl
@[simp] theorem State.setPc_o (s : State) (v : Word) : (s.setPc v).o = s.o := rfl
@[simp] theorem State.setPc_skip (s : State) (v : Word) : (s.setPc v).skip = s.skip := rfl
@[simp] theorem State.setPc_mem (s : State) (v : Word) : (s.setPc v).mem = s.mem := rfl
@[simp] theorem State.setPc_reg (s : State) (v : Word) (q : Reg) : (s.setPc v).reg q = s.reg q := rfl
@[simp] theorem State.setPc_readMem (s : State) (v : Word) (q : Word) : (s.setPc v).readMem q = s.readMem q := rfl

@[simp] theorem State.setSp_regs (s : State) (v : Word) : (s.setSp v).regs = s.regs := rfl
@[simp] theorem State.setSp_pc (s : State) (v : Word) : (s.setSp v).pc = s.pc := rfl
@[simp] theorem State.setSp_sp (s : State) (v : Word) : (s.setSp v).sp = v := rfl
@[simp] theorem State.setSp_o (s : State) (v : Word) : (s.setSp v).o = s.o := rfl
@[simp] theorem State.setSp_skip (s : State) (v : Word) : (s.setSp v).skip = s.skip := rfl
@[simp] theorem State.setSp_mem (s : State) (v : Word) : (s.setSp v).mem = s.mem := rfl
@[simp] theorem State.setSp_reg (s : State) (v : Word) (q : Reg) : (s.setSp v).reg q = s.reg q := rfl
@[simp] theorem State.setSp_readMem (s : State) (v : Word) (q : Word) : (s.setSp v).readMem q = s.readMem q := rfl

@[simp] theorem State.setO_regs (s : State) (v : Word) : (s.setO v).regs = s.regs := rfl
@[simp] theorem State.setO_pc (s : State) (v : Word) : (s.setO v).pc = s.pc := rfl
@[simp] theorem State.setO_sp (s : State) (v : Word) : (s.setO v).sp = s.sp := rfl
@[simp] theorem State.setO_o (s : State) (v : Word) : (s.setO v).o = v := rfl
@[simp] theorem State.setO_skip (s : State) (v : Word) : (s.setO v).skip = s.skip := rfl
@[simp] theorem State.setO_mem (s : State) (v : Word) : (s.setO v).mem = s.mem := rfl
@[simp] theorem State.setO_reg (s : State) (v : Word) (q : Reg) : (s.setO v).reg q = s.reg q := rfl
@[simp] theorem State.setO_readMem (s : State) (v : Word) (q : Word) : (s.setO v).readMem q = s.readMem q := rfl

@[simp] theorem State.setSkip_regs (s : State) (v : Bool) : (s.setSkip v).regs = s.regs := rfl
@[simp] theorem State.setSkip_pc (s : State) (v : Bool) : (s.setSkip v).pc = s.pc := rfl
@[simp] theorem State.setSkip_sp (s : State) (v : Bool) : (s.setSkip v).sp = s.sp := rfl
@[simp] theorem State.setSkip_o (s : State) (v : Bool) : (s.setSkip v).o = s.o := rfl
@[simp] theorem State.setSkip_skip (s : State) (v : Bool) : (s.setSkip v).skip = v := rfl
@[simp] theorem State.setSkip_mem (s : State) (v : Bool) : (s.setSkip v).mem = s.mem := rfl
@[simp] theorem State.setSkip_reg (s : State) (v : Bool) (q : Reg) : (s.setSkip v).reg q = s.reg q := rfl
@[simp] theorem State.setSkip_readMem (s : State) (v : Bool) (q : Word) : (s.setSkip v).readMem q = s.readMem q := rfl

@[simp] theorem State.writeMem_regs (s : State) (a : Word) (v : Word) : (s.writeMem a v).regs = s.regs := rfl
@[simp] theorem State.writeMem_pc (s : State) (a : Word) (v : Word) : (s.writeMem a v).pc = s.pc := rfl
@[simp] theorem State.writeMem_sp (s : State) (a : Word) (v : Word) : (s.writeMem a v).sp = s.sp := rfl
@[simp] theorem State.writeMem_o (s : State) (a : Word) (v : Word) : (s.writeMem a v).o = s.o := rfl
@[simp] theorem State.writeMem_skip (s : State) (a : Word) (v : Word) : (s.writeMem a v).skip = s.skip := rfl
@[simp] theorem State.writeMem_mem (s : State) (a : Word) (v : Word) : (s.writeMem a v).mem = s.mem.write a v := rfl
@[simp] theorem State.writeMem_reg (s : State) (a : Word) (v : Word) (q : Reg) : (s.writeMem a v).reg q = s.reg q := rfl

@[simp] theorem Regs.get_set_same (rs : Regs) (r : Reg) (v : Word) : (rs.set r v).get r = v := by
  cases r <;> rfl

theorem Regs.get_set_other (rs : Regs) (r q : Reg) (v : Word) (h : q ≠ r) : (rs.set r v).get q = rs.get q := by
  cases r <;> cases q <;> first | rfl | exact absurd rfl h

/-- A general register after a write to one. -/
theorem State.setReg_reg (s : State) (r q : Reg) (v : Word) :
    (s.setReg r v).reg q = if q = r then v else s.reg q := by
  split
  next h => subst h; exact Regs.get_set_same s.regs q v
  next h => exact Regs.get_set_other s.regs r q v h

@[simp] theorem State.nextPc_eq (s : State) (n : Nat) : s.nextPc n = s.pc + BitVec.ofNat 16 n := rfl

@[simp] theorem State.look_reg (s : State) (r : Reg) : s.look (.reg r) = s.reg r := rfl
@[simp] theorem State.look_pc (s : State) : s.look .pc = s.pc := rfl
@[simp] theorem State.look_sp (s : State) : s.look .sp = s.sp := rfl
@[simp] theorem State.look_o (s : State) : s.look .o = s.o := rfl
@[simp] theorem State.look_mem (s : State) (a : Word) : s.look (.mem a) = s.readMem a := rfl

end Sys2Proof.Machine
end

