-- ==== Sys2Proof/Laws/Memory.lean ====
section
/-! SUPPORT. Memory: reads after writes, and that every memory operation keeps the canonical form. -/

namespace Sys2Proof.Machine

/-- In a canonical memory from `lo` on, an address below `lo` is not listed. -/
theorem Memory.lookup_below {lo a : Nat} (m : Memory) (hw : Memory.wfFrom lo m = true) (ha : a < lo) :
    Memory.lookup m a = Memory.unlisted := by
  induction m generalizing lo with
  | nil => rfl
  | cons e m ih =>
    obtain ⟨k, v⟩ := e
    simp only [Memory.wfFrom, Bool.and_eq_true, decide_eq_true_eq] at hw
    obtain ⟨⟨⟨hk, _⟩, _⟩, hm⟩ := hw
    simp only [Memory.lookup, show a ≠ k by omega, if_false]
    exact ih hm (by omega)

/-- The canonical form from one address on holds from any lower one. -/
theorem Memory.wfFrom_mono {lo lo' : Nat} (m : Memory) (h : lo' ≤ lo) (hw : Memory.wfFrom lo m = true) :
    Memory.wfFrom lo' m = true := by
  cases m with
  | nil => rfl
  | cons e m =>
    obtain ⟨k, v⟩ := e
    simp only [Memory.wfFrom, Bool.and_eq_true, decide_eq_true_eq] at hw ⊢
    exact ⟨⟨⟨by omega, hw.1.1.2⟩, hw.1.2⟩, hw.2⟩

/-- A store keeps the canonical form. -/
theorem Memory.store_wfFrom {lo a : Nat} (m : Memory) (w : Word) (hw : Memory.wfFrom lo m = true) (hlo : lo ≤ a)
    (ha : a < Config.memWords) : Memory.wfFrom lo (Memory.store m a w) = true := by
  induction m generalizing lo with
  | nil =>
    simp only [Memory.store]
    split
    · rfl
    · simp_all [Memory.wfFrom]
  | cons e m ih =>
    obtain ⟨k, v⟩ := e
    have hw' := hw
    simp only [Memory.wfFrom, Bool.and_eq_true, decide_eq_true_eq] at hw
    obtain ⟨⟨⟨hk, hk'⟩, hv⟩, hm⟩ := hw
    simp only [Memory.store]
    split
    · split
      · exact hw'
      · simp only [Memory.wfFrom, Bool.and_eq_true, decide_eq_true_eq]
        exact ⟨⟨⟨hlo, ha⟩, ‹_›⟩, ⟨⟨by omega, hk'⟩, hv⟩, hm⟩
    · split
      · subst k
        split
        · exact Memory.wfFrom_mono m (by omega) hm
        · simp only [Memory.wfFrom, Bool.and_eq_true, decide_eq_true_eq]
          exact ⟨⟨⟨hlo, ha⟩, ‹_›⟩, hm⟩
      · simp only [Memory.wfFrom, Bool.and_eq_true, decide_eq_true_eq]
        exact ⟨⟨⟨hk, hk'⟩, hv⟩, ih hm (by omega)⟩

/-- What a canonical memory reads after a store: the stored word there, everything else as before. -/
theorem Memory.lookup_store {lo a : Nat} (m : Memory) (w : Word) (hw : Memory.wfFrom lo m = true) (b : Nat) :
    Memory.lookup (Memory.store m a w) b = if b = a then w else Memory.lookup m b := by
  induction m generalizing lo with
  | nil =>
    simp only [Memory.store]
    split
    · split <;> simp_all [Memory.lookup]
    · simp [Memory.lookup]
  | cons e m ih =>
    obtain ⟨k, v⟩ := e
    have hw' := hw
    simp only [Memory.wfFrom, Bool.and_eq_true, decide_eq_true_eq] at hw
    obtain ⟨⟨⟨hk, hk'⟩, hv⟩, hm⟩ := hw
    simp only [Memory.store]
    split
    · have hb : Memory.lookup ((k, v) :: m) a = Memory.unlisted :=
        Memory.lookup_below _ (lo := k) (by
          simp only [Memory.wfFrom, Bool.and_eq_true, decide_eq_true_eq]
          exact ⟨⟨⟨le_refl k, hk'⟩, hv⟩, hm⟩) ‹_›
      split
      · split
        · simp_all
        · rfl
      · rfl
    · split
      · subst k
        have hb : Memory.lookup m a = Memory.unlisted := Memory.lookup_below m hm (by omega)
        split
        · simp only [Memory.lookup]
          split
          · simp_all
          · rfl
        · simp only [Memory.lookup]
          split <;> rfl
      · simp only [Memory.lookup]
        rw [ih hm]
        split <;> split <;> first | rfl | omega

/-- A write keeps the canonical form. -/
theorem Memory.write_wf (m : Memory) (a v : Word) (hw : m.wf = true) : (m.write a v).wf = true :=
  Memory.store_wfFrom m v hw (Nat.zero_le _) a.isLt

/-- What a canonical memory reads after a write. -/
theorem Memory.read_write (m : Memory) (a v b : Word) (hw : m.wf = true) :
    (m.write a v).read b = if b = a then v else m.read b := by
  simp only [Memory.read, Memory.write, Memory.lookup_store m v hw, BitVec.toNat_inj]

/-- A write to the state's memory keeps the state's invariant. -/
theorem State.writeMem_wf (s : State) (a v : Word) (hw : s.wf = true) : (s.writeMem a v).wf = true :=
  Memory.write_wf s.mem a v hw

/-- What the state's memory reads after a write. -/
theorem State.writeMem_readMem (s : State) (a v b : Word) (hw : s.wf = true) :
    (s.writeMem a v).readMem b = if b = a then v else s.readMem b :=
  Memory.read_write s.mem a v b hw

/-- The state's invariant is about its memory alone. -/
theorem State.wf_of_mem_eq {s t : State} (h : t.mem = s.mem) : t.wf = s.wf := by
  simp only [State.wf, h]

@[simp] theorem State.setReg_wf (s : State) (r : Reg) (v : Word) : (s.setReg r v).wf = s.wf := rfl
@[simp] theorem State.setPc_wf (s : State) (v : Word) : (s.setPc v).wf = s.wf := rfl
@[simp] theorem State.setSp_wf (s : State) (v : Word) : (s.setSp v).wf = s.wf := rfl
@[simp] theorem State.setO_wf (s : State) (v : Word) : (s.setO v).wf = s.wf := rfl
@[simp] theorem State.setSkip_wf (s : State) (v : Bool) : (s.setSkip v).wf = s.wf := rfl

/-- Storing words one after another keeps the state's invariant. -/
theorem State.writeWords_wf (ws : List Word) (s : State) (a : Word) (hw : s.wf = true) :
    (s.writeWords a ws).wf = true := by
  induction ws generalizing s a with
  | nil => exact hw
  | cons w ws ih => exact ih _ _ (State.writeMem_wf s a w hw)

end Sys2Proof.Machine
end

