-- ==== Sys2Proof/Laws/Operands.lean ====
section
/-! SUPPORT. The operand resolver: what each of its operations does, said once. -/

namespace Sys2Proof.Machine

/-- What a place holds after a Word is put into a place. -/
theorem State.put_look (s : State) (p q : Place) (v : Word) (hw : s.wf = true) :
    (s.put p v).look q = if q = p then v else s.look q := by
  cases p <;> cases q <;>
    simp [State.put, State.setReg_reg, State.writeMem_readMem, hw]

/-- What a place holds after a write through an accessor: the value where the accessor names it, else as before. A
write to a literal changes nothing. -/
theorem Accessor.write_look (acc : Accessor) (v : Word) (s : State) (q : Place) (hw : s.wf = true) :
    (acc.write v s).look q = if accessorPlace acc = some q then v else s.look q := by
  have key (p : Place) : (s.put p v).look q = if some p = some q then v else s.look q := by
    rw [State.put_look s p q v hw]
    simp only [Option.some.injEq, eq_comm]
  cases acc with
  | reg r => exact key (.reg r)
  | sp => exact key .sp
  | pc => exact key .pc
  | o => exact key .o
  | mem a => exact key (.mem a)
  | lit k => rfl

@[simp] theorem Accessor.write_skip (acc : Accessor) (v : Word) (s : State) : (acc.write v s).skip = s.skip := by
  cases acc <;> rfl

/-- A write through an accessor keeps the state's invariant. -/
theorem Accessor.write_wf (acc : Accessor) (v : Word) (s : State) (hw : s.wf = true) : (acc.write v s).wf = true := by
  cases acc with
  | mem a => exact State.writeMem_wf s a v hw
  | reg r => exact hw
  | sp => exact hw
  | pc => exact hw
  | o => exact hw
  | lit k => exact hw

/-- The accessor of an operand names the operand's place. -/
@[simp] theorem resolve_place (op : Operand) (s : State) : accessorPlace (resolve op s).acc = placeOf op s := by
  cases op <;> rfl

/-- A pre-effect changes SP alone. -/
theorem firePreEffect_resolve (op : Operand) (s₀ s : State) :
    firePreEffect (resolve op s₀).pre s = s.setSp (spMove op s.sp) := by
  cases op <;> rfl

/-- Stages 5 and 6 of a basic instruction change PC and SP alone. -/
theorem prepareBasic_eq (a b : Operand) (s : State) :
    prepareBasic a b s =
      (s.setPc (s.pc + BitVec.ofNat 16 (1 + a.extra + b.extra))).setSp (spAfter a b s) := by
  simp only [prepareBasic, firePreEffect_resolve]
  rfl

/-- Stages 5 and 6 of an extended instruction change PC and SP alone. -/
theorem prepareExtended_eq (a : Operand) (s : State) :
    prepareExtended a s = (s.setPc (s.pc + BitVec.ofNat 16 (1 + a.extra))).setSp (spMove a s.sp) := by
  simp only [prepareExtended, firePreEffect_resolve]
  rfl

/-- What a read through a resolved operand gives once PC and SP have been set: `valueOf`. -/
theorem resolve_read (op : Operand) (s : State) (pc sp : Word) :
    (resolve op s).acc.read ((s.setPc pc).setSp sp) = valueOf op s pc sp := by
  cases op <;> rfl

/-- PC past an instruction with two operands. -/
theorem pcAfter_two (i : Instr) (a b : Operand) (s : State) (h : i.operands = [a, b]) :
    pcAfter i s = s.pc + BitVec.ofNat 16 (1 + a.extra + b.extra) := by
  simp only [pcAfter, Instr.length, h, List.map_cons, List.map_nil, List.sum_cons, List.sum_nil, Nat.add_zero,
    Nat.add_assoc]

/-- PC past an instruction with one operand. -/
theorem pcAfter_one (i : Instr) (a : Operand) (s : State) (h : i.operands = [a]) :
    pcAfter i s = s.pc + BitVec.ofNat 16 (1 + a.extra) := by
  simp only [pcAfter, Instr.length, h, List.map_cons, List.map_nil, List.sum_cons, List.sum_nil, Nat.add_zero]

end Sys2Proof.Machine
end

