-- ==== Sys2Proof/Laws/Exec.lean ====
section
/-! SUPPORT. The shared operations of the meanings, each with one lemma that says everything it can do, and the one
case split of `exec` into them. -/

namespace Sys2Proof.Machine

/-- What `prepareBasic` leaves in every place. -/
theorem prepareBasic_look (i : Instr) (a b : Operand) (s : State) (h : i.operands = [a, b]) (p : Place) :
    (prepareBasic a b s).look p =
      if p = .pc then pcAfter i s else if p = .sp then spAfter a b s else s.look p := by
  rw [prepareBasic_eq, ← pcAfter_two i a b s h]
  cases p <;> rfl

/-- The values that a basic instruction reads. -/
theorem prepareBasic_read (i : Instr) (a b op : Operand) (s : State) (h : i.operands = [a, b]) :
    (resolve op s).acc.read (prepareBasic a b s) = valueOf op s (pcAfter i s) (spAfter a b s) := by
  rw [prepareBasic_eq, ← pcAfter_two i a b s h]
  exact resolve_read op s _ _

@[simp] theorem prepareBasic_wf (a b : Operand) (s : State) : (prepareBasic a b s).wf = s.wf := by
  rw [prepareBasic_eq]; rfl

@[simp] theorem prepareBasic_skip (a b : Operand) (s : State) : (prepareBasic a b s).skip = s.skip := by
  rw [prepareBasic_eq]; rfl

@[simp] theorem prepareExtended_wf (a : Operand) (s : State) : (prepareExtended a s).wf = s.wf := by
  rw [prepareExtended_eq]; rfl

/-- Everything that `writeResult` does. -/
theorem writeResult_spec (i : Instr) (f : Word → Word → Word) (a b : Operand) (s : State) (h : i.operands = [a, b])
    (hw : s.wf = true) : WritesResult i f a b s (writeResult f a b s) := by
  refine ⟨fun p => ?_, by simp [writeResult]⟩
  rw [writeResult, Accessor.write_look _ _ _ _ (by simpa using hw), resolve_place, prepareBasic_read i a b a s h,
    prepareBasic_read i a b b s h, prepareBasic_look i a b s h]

/-- Everything that `writeResultAndO` does where the result lands first. -/
theorem writeResultAndO_spec (p : Config.Params) (hp : p.destOOrder = .resultThenO) (i : Instr)
    (f g : Word → Word → Word) (a b : Operand) (s : State) (h : i.operands = [a, b]) (hw : s.wf = true) :
    WritesResultAndO i f g a b s (writeResultAndO p f g a b s) := by
  refine ⟨fun q => ?_, by simp [writeResultAndO, hp]⟩
  simp only [writeResultAndO, hp]
  rw [show ∀ (t : State) (v : Word), t.setO v = t.put .o v from fun _ _ => rfl,
    State.put_look _ _ _ _ (Accessor.write_wf _ _ _ (by simpa using hw)),
    Accessor.write_look _ _ _ _ (by simpa using hw), resolve_place, prepareBasic_read i a b a s h,
    prepareBasic_read i a b b s h, prepareBasic_look i a b s h]

/-- `writeResultAndO` keeps the state's invariant, whichever write lands last. -/
theorem writeResultAndO_wf (p : Config.Params) (f g : Word → Word → Word) (a b : Operand) (s : State)
    (hw : s.wf = true) : (writeResultAndO p f g a b s).wf = true := by
  unfold writeResultAndO
  cases p.destOOrder with
  | resultThenO => exact Accessor.write_wf _ _ _ (by simpa using hw)
  | oThenResult => exact Accessor.write_wf _ _ _ (by simpa using hw)

/-- Everything that `testOperands` does. -/
theorem testOperands_spec (i : Instr) (c : Word → Word → Bool) (a b : Operand) (s : State)
    (h : i.operands = [a, b]) : SetsSkip i (fun va vb => c va vb = true) a b s (testOperands c a b s) := by
  refine ⟨fun p => ?_, ?_⟩
  · rw [← prepareBasic_look i a b s h]
    cases p <;> rfl
  · simp [testOperands, prepareBasic_read i a b _ s h]

/-- Everything that `callTo` does, as JSR uses it. -/
theorem callTo_spec (spStep : Word) (a : Operand) (s : State) (hw : s.wf = true) :
    Calls spStep a s (callTo spStep (resolve a s).acc (prepareExtended a s)) := by
  have hpc : pcAfter (.jsr a) s = s.pc + BitVec.ofNat 16 (1 + a.extra) := pcAfter_one _ a s rfl
  rw [prepareExtended_eq, ← hpc]
  refine ⟨fun p => ?_, rfl⟩
  have hr (q : Word) :
      (((s.setPc (pcAfter (.jsr a) s)).setSp (spMove a s.sp + spStep)).writeMem (spMove a s.sp + spStep)
        (pcAfter (.jsr a) s)).readMem q
        = if q = spMove a s.sp + spStep then pcAfter (.jsr a) s else s.readMem q :=
    State.writeMem_readMem _ _ _ q (by simpa using hw)
  cases p with
  | pc =>
    simp only [State.look_pc, if_true]
    cases a <;> simp only [placeOf, valueOf, Option.some.injEq, Place.mem.injEq, reduceCtorEq, if_false] <;>
      first | rfl | exact hr _
  | sp => rfl
  | reg r => rfl
  | o => rfl
  | mem q =>
    simp only [State.look_mem, reduceCtorEq, if_false, Place.mem.injEq]
    exact hr q

/-- What `exec` can answer: by the shape of the instruction, one of the four shared operations, or Fatal. -/
theorem exec_cases (i : Instr) (s : State) :
    (∃ f a b, shapeOf i = .result ∧ i.operands = [a, b] ∧ exec i s = .next (writeResult f a b s)) ∨
    (∃ f g a b, shapeOf i = .resultAndO ∧ i.operands = [a, b] ∧ exec i s = .next (writeResultAndO params f g a b s)) ∨
    (∃ c a b, shapeOf i = .test ∧ i.operands = [a, b] ∧ exec i s = .next (testOperands c a b s)) ∨
    (∃ a, i = .jsr a ∧ exec i s = .next (callTo params.jsrSpStep (resolve a s).acc (prepareExtended a s))) ∨
    (shapeOf i = .unknown ∧ exec i s = .fault (.unknownOpcode s.pc i.firstWord)) := by
  cases i
  case jsr a => exact .inr (.inr (.inr (.inl ⟨a, rfl, rfl⟩)))
  all_goals first
    | exact .inr (.inr (.inr (.inr ⟨rfl, rfl⟩)))
    | exact .inl ⟨_, _, _, rfl, rfl, rfl⟩
    | exact .inr (.inl ⟨_, _, _, _, rfl, rfl, rfl⟩)
    | exact .inr (.inr (.inl ⟨_, _, _, rfl, rfl, rfl⟩))

end Sys2Proof.Machine
end

