-- ==== Sys2Proof/Laws/PerInstr.lean ====
section
/-! SUPPORT. For every instruction: its first word lies in its row of spec/opcode_table.json, whose match and mask are
transcribed here, and its length is the row's. -/

namespace Sys2Proof.Laws

/-- `match` and `mask` of the instruction's row in spec/opcode_table.json, transcribed. -/
def tableRow (i : Instr) : Word × Word :=
  match i with
  | .set _ _ => (0x0001, 0x000F)
  | .add _ _ => (0x0002, 0x000F)
  | .sub _ _ => (0x0003, 0x000F)
  | .mul _ _ => (0x0004, 0x000F)
  | .div _ _ => (0x0005, 0x000F)
  | .mod _ _ => (0x0006, 0x000F)
  | .shl _ _ => (0x0007, 0x000F)
  | .shr _ _ => (0x0008, 0x000F)
  | .and _ _ => (0x0009, 0x000F)
  | .bor _ _ => (0x000A, 0x000F)
  | .xor _ _ => (0x000B, 0x000F)
  | .ife _ _ => (0x000C, 0x000F)
  | .ifn _ _ => (0x000D, 0x000F)
  | .ifg _ _ => (0x000E, 0x000F)
  | .ifb _ _ => (0x000F, 0x000F)
  | .jsr _ => (0x0010, 0x03FF)
  | .unknownX00 _ => (0x0000, 0x03FF)
  | .unknownX02 _ => (0x0020, 0x03FF)
  | .unknownX03 _ => (0x0030, 0x03FF)
  | .unknownX04 _ => (0x0040, 0x03FF)
  | .unknownX05 _ => (0x0050, 0x03FF)
  | .unknownX06 _ => (0x0060, 0x03FF)
  | .unknownX07 _ => (0x0070, 0x03FF)
  | .unknownX08 _ => (0x0080, 0x03FF)
  | .unknownX09 _ => (0x0090, 0x03FF)
  | .unknownX0A _ => (0x00A0, 0x03FF)
  | .unknownX0B _ => (0x00B0, 0x03FF)
  | .unknownX0C _ => (0x00C0, 0x03FF)
  | .unknownX0D _ => (0x00D0, 0x03FF)
  | .unknownX0E _ => (0x00E0, 0x03FF)
  | .unknownX0F _ => (0x00F0, 0x03FF)
  | .unknownX10 _ => (0x0100, 0x03FF)
  | .unknownX11 _ => (0x0110, 0x03FF)
  | .unknownX12 _ => (0x0120, 0x03FF)
  | .unknownX13 _ => (0x0130, 0x03FF)
  | .unknownX14 _ => (0x0140, 0x03FF)
  | .unknownX15 _ => (0x0150, 0x03FF)
  | .unknownX16 _ => (0x0160, 0x03FF)
  | .unknownX17 _ => (0x0170, 0x03FF)
  | .unknownX18 _ => (0x0180, 0x03FF)
  | .unknownX19 _ => (0x0190, 0x03FF)
  | .unknownX1A _ => (0x01A0, 0x03FF)
  | .unknownX1B _ => (0x01B0, 0x03FF)
  | .unknownX1C _ => (0x01C0, 0x03FF)
  | .unknownX1D _ => (0x01D0, 0x03FF)
  | .unknownX1E _ => (0x01E0, 0x03FF)
  | .unknownX1F _ => (0x01F0, 0x03FF)
  | .unknownX20 _ => (0x0200, 0x03FF)
  | .unknownX21 _ => (0x0210, 0x03FF)
  | .unknownX22 _ => (0x0220, 0x03FF)
  | .unknownX23 _ => (0x0230, 0x03FF)
  | .unknownX24 _ => (0x0240, 0x03FF)
  | .unknownX25 _ => (0x0250, 0x03FF)
  | .unknownX26 _ => (0x0260, 0x03FF)
  | .unknownX27 _ => (0x0270, 0x03FF)
  | .unknownX28 _ => (0x0280, 0x03FF)
  | .unknownX29 _ => (0x0290, 0x03FF)
  | .unknownX2A _ => (0x02A0, 0x03FF)
  | .unknownX2B _ => (0x02B0, 0x03FF)
  | .unknownX2C _ => (0x02C0, 0x03FF)
  | .unknownX2D _ => (0x02D0, 0x03FF)
  | .unknownX2E _ => (0x02E0, 0x03FF)
  | .unknownX2F _ => (0x02F0, 0x03FF)
  | .unknownX30 _ => (0x0300, 0x03FF)
  | .unknownX31 _ => (0x0310, 0x03FF)
  | .unknownX32 _ => (0x0320, 0x03FF)
  | .unknownX33 _ => (0x0330, 0x03FF)
  | .unknownX34 _ => (0x0340, 0x03FF)
  | .unknownX35 _ => (0x0350, 0x03FF)
  | .unknownX36 _ => (0x0360, 0x03FF)
  | .unknownX37 _ => (0x0370, 0x03FF)
  | .unknownX38 _ => (0x0380, 0x03FF)
  | .unknownX39 _ => (0x0390, 0x03FF)
  | .unknownX3A _ => (0x03A0, 0x03FF)
  | .unknownX3B _ => (0x03B0, 0x03FF)
  | .unknownX3C _ => (0x03C0, 0x03FF)
  | .unknownX3D _ => (0x03D0, 0x03FF)
  | .unknownX3E _ => (0x03E0, 0x03FF)
  | .unknownX3F _ => (0x03F0, 0x03FF)

/-- The instruction's first word has its row's match under its row's mask, and the instruction is as long as the row's
`length_words` says: one word and an extra word for each operand that consumes one. -/
def TableRow.Statement (i : Instr) : Prop :=
  i.firstWord &&& (tableRow i).2 = (tableRow i).1 ∧ (encode i).length = 1 + (i.operands.map Operand.extra).sum

/-- The mask of a basic row keeps the opcode (30_encoding.md R52). -/
theorem basicWord_mask (o : BitVec 4) (a b : BitVec 6) : basicWord o a b &&& 0x000F = BitVec.setWidth 16 o := by
  have ho := o.isLt
  have h : (basicWord o a b).toNat &&& (2 ^ 4 - 1) = o.toNat := by
    rw [Nat.and_two_pow_sub_one_eq_mod, basicWord_toNat]
    omega
  apply BitVec.eq_of_toNat_eq
  rw [BitVec.toNat_and, BitVec.toNat_setWidth, Nat.mod_eq_of_lt (by omega)]
  exact h

/-- The mask of an extended row keeps the sentinel and the extended opcode (30_encoding.md R53). -/
theorem extendedWord_mask (x a : BitVec 6) : extendedWord x a &&& 0x03FF = BitVec.setWidth 16 x <<< 4 := by
  have hx := x.isLt
  have h : (extendedWord x a).toNat &&& (2 ^ 10 - 1) = x.toNat * 16 := by
    rw [Nat.and_two_pow_sub_one_eq_mod, extendedWord_eq, basicWord_toNat]
    simp only [BitVec.ofNat_eq_ofNat, BitVec.toNat_ofNat, Nat.zero_mod]
    omega
  apply BitVec.eq_of_toNat_eq
  rw [BitVec.toNat_and, BitVec.toNat_shiftLeft, BitVec.toNat_setWidth, Nat.mod_eq_of_lt (a := x.toNat) (by omega),
    Nat.shiftLeft_eq, Nat.mod_eq_of_lt (by omega)]
  exact h

/-- The encoding of an instruction is its first word and its extra words. -/
theorem encode_length (i : Instr) : (encode i).length = 1 + (i.operands.map Operand.extra).sum := by
  simp only [encode, List.length_cons, List.length_flatMap, Nat.add_comm 1]
  rfl

theorem TableRow.set (a b : Operand) : TableRow.Statement (.set a b) :=
  ⟨basicWord_mask _ _ _, encode_length _⟩
theorem TableRow.add (a b : Operand) : TableRow.Statement (.add a b) :=
  ⟨basicWord_mask _ _ _, encode_length _⟩
theorem TableRow.sub (a b : Operand) : TableRow.Statement (.sub a b) :=
  ⟨basicWord_mask _ _ _, encode_length _⟩
theorem TableRow.mul (a b : Operand) : TableRow.Statement (.mul a b) :=
  ⟨basicWord_mask _ _ _, encode_length _⟩
theorem TableRow.div (a b : Operand) : TableRow.Statement (.div a b) :=
  ⟨basicWord_mask _ _ _, encode_length _⟩
theorem TableRow.mod (a b : Operand) : TableRow.Statement (.mod a b) :=
  ⟨basicWord_mask _ _ _, encode_length _⟩
theorem TableRow.shl (a b : Operand) : TableRow.Statement (.shl a b) :=
  ⟨basicWord_mask _ _ _, encode_length _⟩
theorem TableRow.shr (a b : Operand) : TableRow.Statement (.shr a b) :=
  ⟨basicWord_mask _ _ _, encode_length _⟩
theorem TableRow.and (a b : Operand) : TableRow.Statement (.and a b) :=
  ⟨basicWord_mask _ _ _, encode_length _⟩
theorem TableRow.bor (a b : Operand) : TableRow.Statement (.bor a b) :=
  ⟨basicWord_mask _ _ _, encode_length _⟩
theorem TableRow.xor (a b : Operand) : TableRow.Statement (.xor a b) :=
  ⟨basicWord_mask _ _ _, encode_length _⟩
theorem TableRow.ife (a b : Operand) : TableRow.Statement (.ife a b) :=
  ⟨basicWord_mask _ _ _, encode_length _⟩
theorem TableRow.ifn (a b : Operand) : TableRow.Statement (.ifn a b) :=
  ⟨basicWord_mask _ _ _, encode_length _⟩
theorem TableRow.ifg (a b : Operand) : TableRow.Statement (.ifg a b) :=
  ⟨basicWord_mask _ _ _, encode_length _⟩
theorem TableRow.ifb (a b : Operand) : TableRow.Statement (.ifb a b) :=
  ⟨basicWord_mask _ _ _, encode_length _⟩
theorem TableRow.jsr (a : Operand) : TableRow.Statement (.jsr a) := ⟨extendedWord_mask _ _, encode_length _⟩
theorem TableRow.unknownX00 (a : Operand) : TableRow.Statement (.unknownX00 a) := ⟨extendedWord_mask _ _, encode_length _⟩
theorem TableRow.unknownX02 (a : Operand) : TableRow.Statement (.unknownX02 a) := ⟨extendedWord_mask _ _, encode_length _⟩
theorem TableRow.unknownX03 (a : Operand) : TableRow.Statement (.unknownX03 a) := ⟨extendedWord_mask _ _, encode_length _⟩
theorem TableRow.unknownX04 (a : Operand) : TableRow.Statement (.unknownX04 a) := ⟨extendedWord_mask _ _, encode_length _⟩
theorem TableRow.unknownX05 (a : Operand) : TableRow.Statement (.unknownX05 a) := ⟨extendedWord_mask _ _, encode_length _⟩
theorem TableRow.unknownX06 (a : Operand) : TableRow.Statement (.unknownX06 a) := ⟨extendedWord_mask _ _, encode_length _⟩
theorem TableRow.unknownX07 (a : Operand) : TableRow.Statement (.unknownX07 a) := ⟨extendedWord_mask _ _, encode_length _⟩
theorem TableRow.unknownX08 (a : Operand) : TableRow.Statement (.unknownX08 a) := ⟨extendedWord_mask _ _, encode_length _⟩
theorem TableRow.unknownX09 (a : Operand) : TableRow.Statement (.unknownX09 a) := ⟨extendedWord_mask _ _, encode_length _⟩
theorem TableRow.unknownX0A (a : Operand) : TableRow.Statement (.unknownX0A a) := ⟨extendedWord_mask _ _, encode_length _⟩
theorem TableRow.unknownX0B (a : Operand) : TableRow.Statement (.unknownX0B a) := ⟨extendedWord_mask _ _, encode_length _⟩
theorem TableRow.unknownX0C (a : Operand) : TableRow.Statement (.unknownX0C a) := ⟨extendedWord_mask _ _, encode_length _⟩
theorem TableRow.unknownX0D (a : Operand) : TableRow.Statement (.unknownX0D a) := ⟨extendedWord_mask _ _, encode_length _⟩
theorem TableRow.unknownX0E (a : Operand) : TableRow.Statement (.unknownX0E a) := ⟨extendedWord_mask _ _, encode_length _⟩
theorem TableRow.unknownX0F (a : Operand) : TableRow.Statement (.unknownX0F a) := ⟨extendedWord_mask _ _, encode_length _⟩
theorem TableRow.unknownX10 (a : Operand) : TableRow.Statement (.unknownX10 a) := ⟨extendedWord_mask _ _, encode_length _⟩
theorem TableRow.unknownX11 (a : Operand) : TableRow.Statement (.unknownX11 a) := ⟨extendedWord_mask _ _, encode_length _⟩
theorem TableRow.unknownX12 (a : Operand) : TableRow.Statement (.unknownX12 a) := ⟨extendedWord_mask _ _, encode_length _⟩
theorem TableRow.unknownX13 (a : Operand) : TableRow.Statement (.unknownX13 a) := ⟨extendedWord_mask _ _, encode_length _⟩
theorem TableRow.unknownX14 (a : Operand) : TableRow.Statement (.unknownX14 a) := ⟨extendedWord_mask _ _, encode_length _⟩
theorem TableRow.unknownX15 (a : Operand) : TableRow.Statement (.unknownX15 a) := ⟨extendedWord_mask _ _, encode_length _⟩
theorem TableRow.unknownX16 (a : Operand) : TableRow.Statement (.unknownX16 a) := ⟨extendedWord_mask _ _, encode_length _⟩
theorem TableRow.unknownX17 (a : Operand) : TableRow.Statement (.unknownX17 a) := ⟨extendedWord_mask _ _, encode_length _⟩
theorem TableRow.unknownX18 (a : Operand) : TableRow.Statement (.unknownX18 a) := ⟨extendedWord_mask _ _, encode_length _⟩
theorem TableRow.unknownX19 (a : Operand) : TableRow.Statement (.unknownX19 a) := ⟨extendedWord_mask _ _, encode_length _⟩
theorem TableRow.unknownX1A (a : Operand) : TableRow.Statement (.unknownX1A a) := ⟨extendedWord_mask _ _, encode_length _⟩
theorem TableRow.unknownX1B (a : Operand) : TableRow.Statement (.unknownX1B a) := ⟨extendedWord_mask _ _, encode_length _⟩
theorem TableRow.unknownX1C (a : Operand) : TableRow.Statement (.unknownX1C a) := ⟨extendedWord_mask _ _, encode_length _⟩
theorem TableRow.unknownX1D (a : Operand) : TableRow.Statement (.unknownX1D a) := ⟨extendedWord_mask _ _, encode_length _⟩
theorem TableRow.unknownX1E (a : Operand) : TableRow.Statement (.unknownX1E a) := ⟨extendedWord_mask _ _, encode_length _⟩
theorem TableRow.unknownX1F (a : Operand) : TableRow.Statement (.unknownX1F a) := ⟨extendedWord_mask _ _, encode_length _⟩
theorem TableRow.unknownX20 (a : Operand) : TableRow.Statement (.unknownX20 a) := ⟨extendedWord_mask _ _, encode_length _⟩
theorem TableRow.unknownX21 (a : Operand) : TableRow.Statement (.unknownX21 a) := ⟨extendedWord_mask _ _, encode_length _⟩
theorem TableRow.unknownX22 (a : Operand) : TableRow.Statement (.unknownX22 a) := ⟨extendedWord_mask _ _, encode_length _⟩
theorem TableRow.unknownX23 (a : Operand) : TableRow.Statement (.unknownX23 a) := ⟨extendedWord_mask _ _, encode_length _⟩
theorem TableRow.unknownX24 (a : Operand) : TableRow.Statement (.unknownX24 a) := ⟨extendedWord_mask _ _, encode_length _⟩
theorem TableRow.unknownX25 (a : Operand) : TableRow.Statement (.unknownX25 a) := ⟨extendedWord_mask _ _, encode_length _⟩
theorem TableRow.unknownX26 (a : Operand) : TableRow.Statement (.unknownX26 a) := ⟨extendedWord_mask _ _, encode_length _⟩
theorem TableRow.unknownX27 (a : Operand) : TableRow.Statement (.unknownX27 a) := ⟨extendedWord_mask _ _, encode_length _⟩
theorem TableRow.unknownX28 (a : Operand) : TableRow.Statement (.unknownX28 a) := ⟨extendedWord_mask _ _, encode_length _⟩
theorem TableRow.unknownX29 (a : Operand) : TableRow.Statement (.unknownX29 a) := ⟨extendedWord_mask _ _, encode_length _⟩
theorem TableRow.unknownX2A (a : Operand) : TableRow.Statement (.unknownX2A a) := ⟨extendedWord_mask _ _, encode_length _⟩
theorem TableRow.unknownX2B (a : Operand) : TableRow.Statement (.unknownX2B a) := ⟨extendedWord_mask _ _, encode_length _⟩
theorem TableRow.unknownX2C (a : Operand) : TableRow.Statement (.unknownX2C a) := ⟨extendedWord_mask _ _, encode_length _⟩
theorem TableRow.unknownX2D (a : Operand) : TableRow.Statement (.unknownX2D a) := ⟨extendedWord_mask _ _, encode_length _⟩
theorem TableRow.unknownX2E (a : Operand) : TableRow.Statement (.unknownX2E a) := ⟨extendedWord_mask _ _, encode_length _⟩
theorem TableRow.unknownX2F (a : Operand) : TableRow.Statement (.unknownX2F a) := ⟨extendedWord_mask _ _, encode_length _⟩
theorem TableRow.unknownX30 (a : Operand) : TableRow.Statement (.unknownX30 a) := ⟨extendedWord_mask _ _, encode_length _⟩
theorem TableRow.unknownX31 (a : Operand) : TableRow.Statement (.unknownX31 a) := ⟨extendedWord_mask _ _, encode_length _⟩
theorem TableRow.unknownX32 (a : Operand) : TableRow.Statement (.unknownX32 a) := ⟨extendedWord_mask _ _, encode_length _⟩
theorem TableRow.unknownX33 (a : Operand) : TableRow.Statement (.unknownX33 a) := ⟨extendedWord_mask _ _, encode_length _⟩
theorem TableRow.unknownX34 (a : Operand) : TableRow.Statement (.unknownX34 a) := ⟨extendedWord_mask _ _, encode_length _⟩
theorem TableRow.unknownX35 (a : Operand) : TableRow.Statement (.unknownX35 a) := ⟨extendedWord_mask _ _, encode_length _⟩
theorem TableRow.unknownX36 (a : Operand) : TableRow.Statement (.unknownX36 a) := ⟨extendedWord_mask _ _, encode_length _⟩
theorem TableRow.unknownX37 (a : Operand) : TableRow.Statement (.unknownX37 a) := ⟨extendedWord_mask _ _, encode_length _⟩
theorem TableRow.unknownX38 (a : Operand) : TableRow.Statement (.unknownX38 a) := ⟨extendedWord_mask _ _, encode_length _⟩
theorem TableRow.unknownX39 (a : Operand) : TableRow.Statement (.unknownX39 a) := ⟨extendedWord_mask _ _, encode_length _⟩
theorem TableRow.unknownX3A (a : Operand) : TableRow.Statement (.unknownX3A a) := ⟨extendedWord_mask _ _, encode_length _⟩
theorem TableRow.unknownX3B (a : Operand) : TableRow.Statement (.unknownX3B a) := ⟨extendedWord_mask _ _, encode_length _⟩
theorem TableRow.unknownX3C (a : Operand) : TableRow.Statement (.unknownX3C a) := ⟨extendedWord_mask _ _, encode_length _⟩
theorem TableRow.unknownX3D (a : Operand) : TableRow.Statement (.unknownX3D a) := ⟨extendedWord_mask _ _, encode_length _⟩
theorem TableRow.unknownX3E (a : Operand) : TableRow.Statement (.unknownX3E a) := ⟨extendedWord_mask _ _, encode_length _⟩
theorem TableRow.unknownX3F (a : Operand) : TableRow.Statement (.unknownX3F a) := ⟨extendedWord_mask _ _, encode_length _⟩

end Sys2Proof.Laws
end

