-- ==== Sys2Proof/Tests/Slice0.lean ====
section
/-! SUPPORT. The model's own tests: refused ill-formed terms, words written out from the spec's encodings, single steps
with results taken from the spec's vectors (95_test_vectors.md), and a witness for the hypotheses of every statement. -/

namespace Sys2Proof.Tests

open Sys2Proof.Machine

/-! ## WellFormed: its one check, in every position of an operand (30_encoding.md R56) -/

theorem test_wellFormed_refuses_small_as_source : Instr.wellFormed (.set (.reg .a) (.small 32)) = false := by decide
theorem test_wellFormed_refuses_small_as_destination : Instr.wellFormed (.add (.small 0xFFFF) .pop) = false := by decide
theorem test_wellFormed_refuses_small_in_jsr : Instr.wellFormed (.jsr (.small 32)) = false := by decide
theorem test_wellFormed_refuses_small_in_unknown : Instr.wellFormed (.unknownX3F (.small 32)) = false := by decide
theorem test_wellFormed_takes_small_31 : Instr.wellFormed (.set (.reg .a) (.small 31)) = true := by decide

/-! ## Decoding: every constructor from a word written out bit by bit (30_encoding.md R52, R53, R59, R60, R62) -/

/-- The instruction that words decode to, if nothing is left over. -/
def decoded (ws : List Word) : Option Instr :=
  match decode ws with
  | .ok (i, []) => some i
  | _ => none

-- b = A is code 000000, a = B is code 000001, the opcode is the last four bits (`bbbbbbaaaaaaoooo`)
theorem test_decode_set : decoded [0b0000000000010001] = some (.set (.reg .b) (.reg .a)) := by decide
theorem test_decode_add : decoded [0b0000000000010010] = some (.add (.reg .b) (.reg .a)) := by decide
theorem test_decode_sub : decoded [0b0000000000010011] = some (.sub (.reg .b) (.reg .a)) := by decide
theorem test_decode_mul : decoded [0b0000000000010100] = some (.mul (.reg .b) (.reg .a)) := by decide
theorem test_decode_div : decoded [0b0000000000010101] = some (.div (.reg .b) (.reg .a)) := by decide
theorem test_decode_mod : decoded [0b0000000000010110] = some (.mod (.reg .b) (.reg .a)) := by decide
theorem test_decode_shl : decoded [0b0000000000010111] = some (.shl (.reg .b) (.reg .a)) := by decide
theorem test_decode_shr : decoded [0b0000000000011000] = some (.shr (.reg .b) (.reg .a)) := by decide
theorem test_decode_and : decoded [0b0000000000011001] = some (.and (.reg .b) (.reg .a)) := by decide
theorem test_decode_bor : decoded [0b0000000000011010] = some (.bor (.reg .b) (.reg .a)) := by decide
theorem test_decode_xor : decoded [0b0000000000011011] = some (.xor (.reg .b) (.reg .a)) := by decide
theorem test_decode_ife : decoded [0b0000000000011100] = some (.ife (.reg .b) (.reg .a)) := by decide
theorem test_decode_ifn : decoded [0b0000000000011101] = some (.ifn (.reg .b) (.reg .a)) := by decide
theorem test_decode_ifg : decoded [0b0000000000011110] = some (.ifg (.reg .b) (.reg .a)) := by decide
theorem test_decode_ifb : decoded [0b0000000000011111] = some (.ifb (.reg .b) (.reg .a)) := by decide
-- a = C is code 000010, the opcode 000001, then the sentinel 0000 (`aaaaaaxxxxxx0000`)
theorem test_decode_jsr : decoded [0b0000100000010000] = some (.jsr (.reg .c)) := by decide
-- the unknown opcodes: a = C, x from 0 to 63 but for 1, the sentinel 0000
theorem test_decode_unknown_0 :
    [0b0000100000000000, 0b0000100000100000, 0b0000100000110000, 0b0000100001000000,
     0b0000100001010000, 0b0000100001100000, 0b0000100001110000, 0b0000100010000000,
     0b0000100010010000, 0b0000100010100000, 0b0000100010110000, 0b0000100011000000,
     0b0000100011010000, 0b0000100011100000, 0b0000100011110000, 0b0000100100000000].map (fun w : Word => decoded [w]) =
    [.unknownX00 (.reg .c), .unknownX02 (.reg .c), .unknownX03 (.reg .c), .unknownX04 (.reg .c),
     .unknownX05 (.reg .c), .unknownX06 (.reg .c), .unknownX07 (.reg .c), .unknownX08 (.reg .c),
     .unknownX09 (.reg .c), .unknownX0A (.reg .c), .unknownX0B (.reg .c), .unknownX0C (.reg .c),
     .unknownX0D (.reg .c), .unknownX0E (.reg .c), .unknownX0F (.reg .c), .unknownX10 (.reg .c)].map some := by decide
theorem test_decode_unknown_1 :
    [0b0000100100010000, 0b0000100100100000, 0b0000100100110000, 0b0000100101000000,
     0b0000100101010000, 0b0000100101100000, 0b0000100101110000, 0b0000100110000000,
     0b0000100110010000, 0b0000100110100000, 0b0000100110110000, 0b0000100111000000,
     0b0000100111010000, 0b0000100111100000, 0b0000100111110000, 0b0000101000000000].map (fun w : Word => decoded [w]) =
    [.unknownX11 (.reg .c), .unknownX12 (.reg .c), .unknownX13 (.reg .c), .unknownX14 (.reg .c),
     .unknownX15 (.reg .c), .unknownX16 (.reg .c), .unknownX17 (.reg .c), .unknownX18 (.reg .c),
     .unknownX19 (.reg .c), .unknownX1A (.reg .c), .unknownX1B (.reg .c), .unknownX1C (.reg .c),
     .unknownX1D (.reg .c), .unknownX1E (.reg .c), .unknownX1F (.reg .c), .unknownX20 (.reg .c)].map some := by decide
theorem test_decode_unknown_2 :
    [0b0000101000010000, 0b0000101000100000, 0b0000101000110000, 0b0000101001000000,
     0b0000101001010000, 0b0000101001100000, 0b0000101001110000, 0b0000101010000000,
     0b0000101010010000, 0b0000101010100000, 0b0000101010110000, 0b0000101011000000,
     0b0000101011010000, 0b0000101011100000, 0b0000101011110000, 0b0000101100000000].map (fun w : Word => decoded [w]) =
    [.unknownX21 (.reg .c), .unknownX22 (.reg .c), .unknownX23 (.reg .c), .unknownX24 (.reg .c),
     .unknownX25 (.reg .c), .unknownX26 (.reg .c), .unknownX27 (.reg .c), .unknownX28 (.reg .c),
     .unknownX29 (.reg .c), .unknownX2A (.reg .c), .unknownX2B (.reg .c), .unknownX2C (.reg .c),
     .unknownX2D (.reg .c), .unknownX2E (.reg .c), .unknownX2F (.reg .c), .unknownX30 (.reg .c)].map some := by decide
theorem test_decode_unknown_3 :
    [0b0000101100010000, 0b0000101100100000, 0b0000101100110000, 0b0000101101000000,
     0b0000101101010000, 0b0000101101100000, 0b0000101101110000, 0b0000101110000000,
     0b0000101110010000, 0b0000101110100000, 0b0000101110110000, 0b0000101111000000,
     0b0000101111010000, 0b0000101111100000, 0b0000101111110000].map (fun w : Word => decoded [w]) =
    [.unknownX31 (.reg .c), .unknownX32 (.reg .c), .unknownX33 (.reg .c), .unknownX34 (.reg .c),
     .unknownX35 (.reg .c), .unknownX36 (.reg .c), .unknownX37 (.reg .c), .unknownX38 (.reg .c),
     .unknownX39 (.reg .c), .unknownX3A (.reg .c), .unknownX3B (.reg .c), .unknownX3C (.reg .c),
     .unknownX3D (.reg .c), .unknownX3E (.reg .c), .unknownX3F (.reg .c)].map some := by decide

/-- Every operand code, as operand a of JSR, with the word 0x1234 after it (30_encoding.md R55). -/
theorem test_decode_operands :
    [0b0001110000010000, 0b0010000000010000, 0b0011110000010000, 0b0110000000010000, 0b0110010000010000,
     0b0110100000010000, 0b0110110000010000, 0b0111000000010000, 0b0111010000010000, 0b1000000000010000,
     0b1111110000010000].map (fun w : Word => decoded [w]) =
    [Operand.reg .j, .ind .a, .ind .j, .pop, .peek, .push, .sp, .pc, .o, .small 0, .small 31].map
      (fun a => some (.jsr a)) := by decide
theorem test_decode_operands_with_word :
    [0b0100000000010000, 0b0101110000010000, 0b0111100000010000, 0b0111110000010000].map
      (fun w : Word => decoded [w, 0x1234]) =
    [Operand.indOff .a 0x1234, .indOff .j 0x1234, .nw 0x1234, .lit 0x1234].map (fun a => some (.jsr a)) := by decide

/-- a's extra word comes first (95_test_vectors.md O36). -/
theorem test_decode_extra_word_order :
    decoded [0x4501, 0x0001, 0x0002] = some (.set (.indOff .a 0x0001) (.indOff .b 0x0002)) := by decide
theorem test_decode_missing_word : (decode [0x7C01]).toOption = none := by decide
theorem test_decode_no_word : (decode []).toOption = none := by decide
theorem test_decode_table_word : decodeTableWord 16 0x7DE1 = some (.set (.nw 0) (.lit 0)) := by decide
theorem test_decode_table_words :
    decodeTableWord 48 0x004880007DE1 = some (.set (.nw 0x8000) (.lit 0x0048)) := by decide
theorem test_encode_two_extra_words :
    encode (.set (.nw 0x8000) (.lit 0x0048)) = [0x7DE1, 0x8000, 0x0048] := by decide
theorem test_encode_jsr : encode (.jsr (.lit 0x1000)) = [0x7C10, 0x1000] := by decide

/-! ## Steps, with the results of 95_test_vectors.md -/

/-- The reset state with words placed at an address and PC there. -/
def placedAt (pc : Word) (ws : List Word) : State := (State.reset.writeWords pc ws).setPc pc

/-- The reset state with words placed at address 0 and values in A, B and O. -/
def withAB (ws : List Word) (a b o : Word) : State :=
  (((State.reset.writeWords 0 ws).setReg .a a).setReg .b b).setO o

/-- The next state of a step, if it answers one. -/
def after (r : Result) : Option State :=
  match r with
  | .next t => some t
  | .fault _ => none
  | .refused _ => none

/-- A, O, PC after a step of `op A, B` with O = 0x5A5A (95_test_vectors.md section A). -/
def alu (w a b : Word) : Option (Word × Word × Word) :=
  (after (step (withAB [w] a b 0x5A5A))).map (fun t => (t.regs.a, t.o, t.pc))

theorem test_set : alu 0x0401 0x0001 0x0002 = some (0x0002, 0x5A5A, 1) := by decide                    -- A1
theorem test_add_carries : alu 0x0402 0xFFFF 0xFFFF = some (0xFFFE, 1, 1) := by decide                  -- A6
theorem test_add_clears_o : alu 0x0402 0x7FFF 0x0001 = some (0x8000, 0, 1) := by decide                 -- A10
theorem test_sub_borrows : alu 0x0403 0x7FFF 0x8000 = some (0xFFFF, 0xFFFF, 1) := by decide             -- A18
theorem test_sub_equal : alu 0x0403 0x0007 0x0007 = some (0x0000, 0, 1) := by decide                    -- A14
theorem test_mul_largest : alu 0x0404 0xFFFF 0xFFFF = some (0x0001, 0xFFFE, 1) := by decide             -- A21
theorem test_div_fraction : alu 0x0405 0x0064 0x0007 = some (0x000E, 0x4924, 1) := by decide            -- A38
theorem test_div_by_zero : alu 0x0405 0x0007 0x0000 = some (0, 0, 1) := by decide                       -- A28
theorem test_mod : alu 0x0406 0xFFFF 0x0010 = some (0x000F, 0x5A5A, 1) := by decide                     -- A43
theorem test_mod_by_zero : alu 0x0406 0x0007 0x0000 = some (0, 0x5A5A, 1) := by decide                  -- A41
theorem test_shl_31 : alu 0x0407 0xFFFF 0x001F = some (0, 0x8000, 1) := by decide                       -- A55
theorem test_shl_whole_count : alu 0x0407 0xFFFF 0xFFFF = some (0, 0, 1) := by decide                   -- A58
theorem test_shr_17 : alu 0x0408 0xFFFF 0x0011 = some (0, 0x7FFF, 1) := by decide                       -- A65
theorem test_shr_is_logical : alu 0x0408 0x8001 0x0001 = some (0x4000, 0x8000, 1) := by decide          -- A60
theorem test_and : alu 0x0409 0x0FF0 0x00FF = some (0x00F0, 0x5A5A, 1) := by decide                     -- A71
theorem test_bor : alu 0x040A 0x0F00 0x00F0 = some (0x0FF0, 0x5A5A, 1) := by decide                     -- A75
theorem test_xor : alu 0x040B 0x1234 0xFFFF = some (0xEDCB, 0x5A5A, 1) := by decide                     -- A81

/-- The skip flag, A and O after a step of `IFx A, B` (95_test_vectors.md section F). -/
def cond (w a b : Word) : Option (Bool × Word × Word) :=
  (after (step (withAB [w] a b 0x5A5A))).map (fun t => (t.skip, t.regs.a, t.o))

theorem test_ife_equal : cond 0x040C 0x0005 0x0005 = some (false, 5, 0x5A5A) := by decide               -- F1
theorem test_ife_different : cond 0x040C 0x0005 0x0006 = some (true, 5, 0x5A5A) := by decide            -- F2
theorem test_ifn_equal : cond 0x040D 0x0005 0x0005 = some (true, 5, 0x5A5A) := by decide                -- F6
theorem test_ifn_different : cond 0x040D 0x0005 0x0006 = some (false, 5, 0x5A5A) := by decide           -- F7
theorem test_ifg_unsigned : cond 0x040E 0x8000 0x0001 = some (false, 0x8000, 0x5A5A) := by decide       -- F12
theorem test_ifg_equal : cond 0x040E 0x0005 0x0005 = some (true, 5, 0x5A5A) := by decide                -- F10
theorem test_ifb_common : cond 0x040F 0xFF00 0x0100 = some (false, 0xFF00, 0x5A5A) := by decide         -- F22
theorem test_ifb_none : cond 0x040F 0x000F 0x0010 = some (true, 0x000F, 0x5A5A) := by decide            -- F18

/-- S7a: the source's example of JSR. -/
theorem test_jsr :
    (after (step (placedAt 0x0010 [0x7C10, 0x1000]))).map (fun t => (t.pc, t.sp, t.readMem 0xFFFE)) =
      some (0x1000, 0xFFFE, 0x0012) := by decide
/-- J8: JSR POP reads the cell it has just stored to. -/
theorem test_jsr_pop :
    (after (step (((placedAt 0x0020 [0x6010]).setSp 0x9000).writeMem 0x9000 0x1234))).map
      (fun t => (t.pc, t.sp, t.readMem 0x9000)) = some (0x0021, 0x9000, 0x0021) := by decide
/-- S7b: JSR at JSR_SP_STEP = 0x0001. -/
theorem test_jsr_literal_reading :
    (after (stepWith { Config.specDefault with jsrSpStep := 1 } (placedAt 0x0010 [0x7C10, 0x1000]))).map
      (fun t => (t.pc, t.sp, t.readMem 0)) = some (0x1000, 0, 0x0012) := by decide
/-- C18, C19: MUL O, 0x0100 at both values of DEST_O_ORDER. -/
theorem test_mul_o_default :
    (after (step (withAB [0x7DD4, 0x0100] 0 0 0x0200))).map (fun t => t.o) = some 0x0002 := by decide
theorem test_mul_o_other_order :
    (after (stepWith { Config.specDefault with destOOrder := .oThenResult } (withAB [0x7DD4, 0x0100] 0 0 0x0200))).map
      (fun t => t.o) = some 0x0000 := by decide
/-- O45: SET PUSH, SP stores SP after the pre-effect. -/
theorem test_set_push_sp :
    (after (step ((placedAt 0 [0x6DA1]).setSp 0x9000))).map (fun t => (t.sp, t.readMem 0x8FFF)) =
      some (0x8FFF, 0x8FFF) := by decide
/-- O44: in SET SP, POP the write wins over the pre-effect. -/
theorem test_set_sp_pop :
    (after (step (((placedAt 0 [0x61B1]).setSp 0x9000).writeMem 0x9000 0x4321))).map (fun t => t.sp) =
      some 0x4321 := by decide
/-- O21: PC is read past both operands' extra words. -/
theorem test_set_cell_pc :
    (after (step (placedAt 0 [0x71E1, 0x1000]))).map (fun t => t.readMem 0x1000) = some 2 := by decide
/-- T18: an instruction that wraps from 0xFFFF to 0. -/
theorem test_wraps_past_top :
    (after (step (placedAt 0xFFFE [0x7DE1, 0x1000, 0x0020]))).map (fun t => (t.pc, t.readMem 0x1000)) =
      some (1, 0x0020) := by decide
/-- T1: a skipped three-word instruction. -/
theorem test_skip_three_words :
    (after (step ((placedAt 0x0004 [0x7DE1, 0x8000, 0x0048]).setSkip true))).map
      (fun t => (t.pc, t.skip, t.readMem 0x8000)) = some (0x0007, false, 0) := by decide
/-- T9: a skipped unknown opcode. -/
theorem test_skip_unknown :
    (after (step ((placedAt 0 [0x7C20, 0x1234]).setSkip true))).map (fun t => (t.pc, t.skip)) = some (2, false) := by decide
/-- T8: the same performed is Fatal with the address and the word. -/
theorem test_unknown_is_fatal : step (placedAt 0 [0x7C20, 0x1234]) = .fault (.unknownOpcode 0 0x7C20) := by rfl
/-- S11, T6: the first step from reset with no image. -/
theorem test_step_from_reset : step State.reset = .fault (.unknownOpcode 0 0) := by rfl
/-- The instruction that withFetchWord places is the one the next step performs. -/
theorem test_withFetchWord :
    (after (step (State.reset.withFetchWord 16 0x8401))).map (fun t => (t.regs.a, t.pc)) = some (1, 1) := by decide

/-! ## Memory and the host -/

theorem test_store_of_zero_lists_nothing : ((State.reset.writeMem 5 7).writeMem 5 0).mem = [] := by decide
theorem test_stores_are_sorted :
    ((State.reset.writeMem 9 1).writeMem 3 2).mem = [(3, 2), (9, 1)] := by decide
/-- S8: the source's example of an image. -/
theorem test_load_image :
    (after (loadImage [0x01, 0x00, 0x00, 0x00] State.reset)).map (fun t => t.mem) = some [(0, 0x0100)] := by decide
/-- S8: an odd trailing byte is dropped. -/
theorem test_load_odd_image :
    (after (loadImage [0x7C, 0x01, 0x00] State.reset)).map (fun t => t.mem) = some [(0, 0x7C01)] := by decide
/-- 20_memory.md R38: the last cell of the display region. -/
theorem test_display_end : displayCell 24 79 = 0x87CF := by decide

/-! ## Disassembler (95_test_vectors.md section D) -/

theorem test_disasm_three_words :                                                                       -- D4
    disasm (placedAt 0x0004 [0x7DE1, 0x8000, 0x0048]).mem 0x0004 = ("SET [0x8000], 0x0048", 0x0007) := by decide
theorem test_disasm_offset :                                                                            -- D26
    disasm (placedAt 0x0065 [0x5CF5, 0xFFFF]).mem 0x0065 = ("DIV [J], [0xffff+J]", 0x0067) := by decide
theorem test_disasm_unknown :                                                                           -- D21
    disasm (placedAt 0x005D [0x4020, 0x0005]).mem 0x005D = ("??? [0x0005+A]", 0x005F) := by decide
theorem test_disasm_small : disasm (placedAt 0x0062 [0xFC02]).mem 0x0062 = ("ADD A, 0x1f", 0x0063) := by decide  -- D24
theorem test_disasm_wraps : disasm (placedAt 0xFFFF [0x7C01, 0x7C01]).mem 0xFFFF = ("SET A, 0x7c01", 1) := by decide  -- D41

/-! ## Witnesses: a state, and operands, that meet the hypotheses of each statement together -/

/-- A state that is not the reset state, with canonical memory: `SET A, B` at PC, a stack cell, values in registers. -/
def sample : State := (((withAB [0x0401] 0x1111 0x2222 0x5A5A).setSp 0x9000).writeMem 0x9000 0x4321)

theorem test_witness_StepKeepsMemoryCanonical : sample.wf = true ∧ ∃ t, step sample = .next t := ⟨by decide, _, rfl⟩
theorem test_witness_HostCommandsKeepMemoryCanonical : sample.wf = true ∧ ∃ t, loadImage [0x12, 0x34] sample = .next t := ⟨by decide, _, rfl⟩
theorem test_witness_CanonicalMemoryIsUnique : Memory.wf [(3, 7)] = true ∧ ∀ a : Word, Memory.read [(3, 7)] a = Memory.read [(3, 7)] a := ⟨by decide, fun _ => rfl⟩
theorem test_witness_StoreSetsOneCell : sample.wf = true ∧ (0x9001 : Word) ≠ 0x9000 ∧ ∀ b, Place.pc ≠ .mem b := ⟨by decide, by decide, fun _ h => by cases h⟩
theorem test_witness_EncodeThenDecode : Instr.wellFormed (.add (.indOff .j 0xFFFF) (.small 31)) = true := by decide
theorem test_witness_DecodeThenEncode : decode [0x7C01, 0x0030, 0x0005] = .ok (.set (.reg .a) (.lit 0x0030), [0x0005]) := by rfl
theorem test_witness_LengthAndExtraWords : opcodeField 0x7C10 = 0 ∧ opcodeField 0x7DE1 ≠ 0 := by decide
theorem test_witness_StepRunsDecodedInstruction : decode [sample.readMem sample.pc, sample.readMem (sample.pc + 1), sample.readMem (sample.pc + 2)] =
    .ok (.set (.reg .a) (.reg .b), [0, 0]) ∧ sample.skip = false ∧ (sample.setSkip true).skip = true := ⟨by rfl, by decide, by decide⟩
theorem test_witness_PlacedInstructionIsRun : sample.wf = true ∧ decodeTableWord 16 0x8802 = some (.add (.reg .a) (.small 2)) ∧
    Place.sp ≠ .mem sample.pc ∧ Place.sp ≠ .mem (sample.pc + 1) ∧ Place.sp ≠ .mem (sample.pc + 2) := by decide
theorem test_witness_FatalExactlyOnIllegalWord : State.fatalNext State.reset = true ∧ sample.fatalNext = false := by decide
theorem test_witness_FatalChangesNothing : obey .step State.reset = (State.reset, .fatal 0 0) := by rfl
theorem test_witness_SkippedInstructionOnlyAdvances : (sample.setSkip true).skip = true := by decide
theorem test_witness_PreEffectsFireOncePerOperand : Instr.operands (.add .pop .push) = [.pop, .push] ∧ (∃ t, exec (.add .pop .push) sample = .next t) ∧
    destinationOf (.add .pop .push) sample ≠ some .sp ∧ (∃ t, exec (.jsr .pop) sample = .next t) ∧
    (sample.setSkip true).skip = true ∧ ∃ t, step (sample.setSkip true) = .next t := ⟨rfl, ⟨_, rfl⟩, by decide, ⟨_, rfl⟩, rfl, _, rfl⟩
theorem test_witness_UnknownOpcodesAreFatal : ((0x3F : BitVec 6), Instr.unknownX3F) ∈ unknownOpcodes := by simp [unknownOpcodes]
/-- The hypothesis of every statement about SET to XOR and JSR, of TwoStackOperands, PushThenPopRoundTrips, JsrAtEveryStep,
HostReadsWhatItWrote and StoreIsFetchedNext: a canonical memory. They take every operand. -/
theorem test_witness_canonical_memory : sample.wf = true := by decide
theorem test_witness_DestinationOAtEveryOrder : (Instr.shr, shrResult, shrO) ∈ ([(.add, addResult, addO), (.sub, subResult, subO), (.mul, mulResult, mulO),
      (.div, divResult, divO), (.shl, shlResult, shlO), (.shr, shrResult, shrO)] :
      List ((Operand → Operand → Instr) × (Word → Word → Word) × (Word → Word → Word))) ∧
    Config.specDefault.destOOrder = .resultThenO ∧
    (Config.Params.mk 1 .oThenResult "?").destOOrder = .oThenResult := ⟨by simp, rfl, rfl⟩
theorem test_witness_ShiftClosedForms : (15 : Word).toNat ≤ 15 ∧ 16 ≤ (16 : Word).toNat ∧ (31 : Word).toNat ≤ 31 ∧ (16 : Word).toNat ≤ 16 ∧
    17 ≤ (17 : Word).toNat ∧ 32 ≤ (32 : Word).toNat := by decide
theorem test_witness_OverflowRegisterMakesArithmeticExact : (1 : Word) ≠ 0 ∧ (0 : Word) = 0 := by decide
theorem test_witness_LiteralDestinationDiscards : Instr.operands (.sub (.small 0) .pop) = [.small 0, .pop] ∧ placeOf (.small 0) sample = none ∧
    (∃ t, exec (.sub (.small 0) .pop) sample = .next t) ∧ shapeOf (.set (.lit 1) .pop) ≠ .resultAndO ∧
    shapeOf (.sub (.small 0) .pop) ≠ .test := ⟨rfl, rfl, ⟨_, rfl⟩, by decide, by decide⟩
theorem test_witness_CallThenReturn : sample.wf = true ∧ ∃ t, exec (.jsr .peek) sample = .next t := ⟨by decide, _, rfl⟩
theorem test_witness_JsrCornerCases : (sample.setReg .c 0x8FFF).wf = true ∧ (sample.setReg .c 0x8FFF).reg .c = (sample.setReg .c 0x8FFF).sp - 1 ∧
    (sample.setSp 0).wf = true ∧ (sample.setSp 0).sp = 0 := by decide
theorem test_witness_SkipFlagOnlySetByConditionals : ∃ t, exec (.ifn (.reg .a) (.reg .a)) sample = .next t ∧ sample.skip = false ∧ t.skip = true := ⟨_, rfl, rfl, rfl⟩
theorem test_witness_SkipFlagOnlySetByConditionals_step : ∃ t, step (withAB [0x000D] 1 1 0) = .next t ∧ t.skip = true := ⟨_, rfl, rfl⟩
theorem test_witness_OverflowRegisterOnlyWrittenBySix : (∃ t, exec (.mod .sp .pop) sample = .next t) ∧ shapeOf (.mod .sp .pop) ≠ .resultAndO ∧
    destinationOf (.mod .sp .pop) sample ≠ some .o := ⟨⟨_, rfl⟩, by decide, by decide⟩
theorem test_witness_InstructionsWriteOnlyTheirDestination : sample.wf = true ∧ (∃ t, exec (.add .pop (.reg .a)) sample = .next t) ∧
    destinationOf (.add .pop (.reg .a)) sample ≠ some (.reg .a) ∧
    destinationOf (.add .pop (.reg .a)) sample ≠ some (.mem 0x9001) := ⟨by decide, ⟨_, rfl⟩, by decide, by decide⟩
theorem test_witness_PcAdvancesPastInstruction : (∃ t, exec (.set .sp (.lit 5)) sample = .next t) ∧ shapeOf (.set .sp (.lit 5)) ≠ .call ∧
    destinationOf (.set .sp (.lit 5)) sample ≠ some .pc := ⟨⟨_, rfl⟩, by decide, by decide⟩
theorem test_witness_DisassemblerAgreesWithStep : (sample.setSkip true).skip = true ∧ (fetch sample).operands = [.reg .a, .reg .b] ∧
    (fetch State.reset).operands = [.reg .a] ∧ State.reset.fatalNext = true ∧ sample.skip = false ∧
    (∃ t, step sample = .next t) ∧ shapeOf (fetch sample) ≠ .call ∧ destinationOf (fetch sample) sample ≠ some .pc := ⟨rfl, by decide, by decide, by decide, rfl, ⟨_, rfl⟩, by decide, by decide⟩
theorem test_witness_ImageLoadIsBigEndian : ([0x7C, 0x01, 0x00] : List Byte).length ≤ 131073 ∧ 2 * 0 + 1 < ([0x7C, 0x01, 0x00] : List Byte).length ∧
    ([0x7C, 0x01, 0x00] : List Byte).length ≤ 2 * 1 + 1 := by decide

end Sys2Proof.Tests
end

section
/-! PROOFS. Memory (20_memory.md): what a store and a run of stores read back and leave alone, the words of a program
image, and the statements about a store (R31) and about the image load (R34). -/

namespace Sys2Proof.Machine

/-! ## Stores: the frame, and what a run of stores reads back -/

/-- A store reaches no register. -/
theorem State.writeMem_look_of_ne_mem (s : State) (a v : Word) (p : Place) (hp : ∀ b, p ≠ .mem b) :
    (s.writeMem a v).look p = s.look p := by
  cases p with
  | reg _ | pc | sp | o => rfl
  | mem b => exact absurd rfl (hp b)

/-- A run of stores reaches no register. -/
theorem State.writeWords_look_of_ne_mem (ws : List Word) (s : State) (a : Word) (p : Place)
    (hp : ∀ b, p ≠ .mem b) : (s.writeWords a ws).look p = s.look p := by
  induction ws generalizing s a with
  | nil => rfl
  | cons w ws ih => exact (ih _ _).trans (State.writeMem_look_of_ne_mem s a w p hp)

@[simp] theorem State.writeWords_skip (ws : List Word) (s : State) (a : Word) :
    (s.writeWords a ws).skip = s.skip := by
  induction ws generalizing s a with
  | nil => rfl
  | cons w ws ih => exact ih _ _

/-- A run of at most 65536 stores from `a` on: `b` reads the word at its distance from `a`, modulo 65536, and as before
past the end. A longer run would overwrite its own first words. -/
theorem State.writeWords_readMem (ws : List Word) (s : State) (a b : Word) (hw : s.wf = true)
    (hlen : ws.length ≤ Config.memWords) :
    (s.writeWords a ws).readMem b = ws[(b - a).toNat]?.getD (s.readMem b) := by
  induction ws generalizing s a with
  | nil => rfl
  | cons w ws ih =>
    simp only [Config.memWords, List.length_cons] at hlen ih
    rw [State.writeWords, ih _ _ (State.writeMem_wf s a w hw) (by omega), State.writeMem_readMem s a w b hw]
    by_cases hba : b = a
    · have hlast : (b - (a + 1)).toNat = 65535 := by rw [hba]; bv_omega
      have hpast : ws[(b - (a + 1)).toNat]? = none := List.getElem?_eq_none (by omega)
      rw [hpast, if_pos hba]
      simp [hba]
    · have hnext : (b - a).toNat = (b - (a + 1)).toNat + 1 := by bv_omega
      simp [hnext, hba]

/-! ## The words of an image (20_memory.md R34) -/

theorem imageWords_length : ∀ image : List Byte, (imageWords image).length = image.length / 2
  | [] => rfl
  | [_] => by simp [imageWords]
  | _ :: _ :: rest => by
    simp only [imageWords, List.length_cons, imageWords_length rest]
    omega

/-- Two bytes joined are a big-endian pair. -/
theorem byte_append_eq_toWord (hi lo : Byte) : hi ++ lo = toWord (hi.toNat * 256 + lo.toNat) := by
  have hlo := lo.isLt
  apply BitVec.eq_of_toNat_eq
  rw [BitVec.toNat_append, ← Nat.shiftLeft_add_eq_or_of_lt hlo, Nat.shiftLeft_eq, toWord, BitVec.toNat_ofNat]
  omega

/-- Word `k` of an image is its byte pair `k`, for each whole pair. -/
theorem imageWords_getElem? : ∀ (image : List Byte) (k : Nat), 2 * k + 1 < image.length →
    (imageWords image)[k]? =
      some (toWord ((image.getD (2 * k) 0).toNat * 256 + (image.getD (2 * k + 1) 0).toNat))
  | [], _, hk => absurd hk (by simp)
  | [_], _, hk => absurd hk (by simp)
  | hi :: lo :: _, 0, _ => by simp [imageWords, byte_append_eq_toWord]
  | _ :: _ :: rest, k + 1, hk => by
    simp only [List.length_cons] at hk
    simpa [imageWords, Nat.mul_add] using imageWords_getElem? rest k (by omega)

/-! ## The image load after reset -/

/-- The load answers for every image of at most 65536 words. -/
theorem loadImage_eq_next (image : List Byte) (s : State) (hlen : (imageWords image).length ≤ Config.memWords) :
    loadImage image s = .next (s.writeWords 0 (imageWords image)) :=
  if_neg (by omega)

/-- Reset leaves the memory in canonical form, so that reads after stores are known. -/
theorem State.reset_wf : State.reset.wf = true := rfl

/-- After reset and a run of stores from address 0, cell `k` holds word `k`, and 0 past the last word. -/
theorem State.reset_writeWords_readMem (ws : List Word) (hlen : ws.length ≤ Config.memWords) (k : Nat)
    (hk : k < Config.memWords) :
    (State.reset.writeWords 0 ws).readMem (BitVec.ofNat 16 k) = ws[k]?.getD 0 := by
  have hdist : (BitVec.ofNat 16 k - 0).toNat = k := by
    rw [Config.memWords] at hk
    simpa using hk
  rw [State.writeWords_readMem ws State.reset 0 _ State.reset_wf hlen, hdist]
  rfl

/-! ## The statements -/

/-- Settles O6: the cell from the read after a store, the registers from the frame. -/
theorem storeSetsOneCell : Obligations.StoreSetsOneCell := by
  intro s a v hw
  have hread (b : Word) : (s.writeMem a v).readMem b = if b = a then v else s.readMem b :=
    State.writeMem_readMem s a v b hw
  exact ⟨(hread a).trans (if_pos rfl), fun b hb => (hread b).trans (if_neg hb),
    State.writeMem_look_of_ne_mem s a v, State.writeMem_skip s a v⟩

/-- Settles O53: the load is a run of stores from address 0 over the memory of reset, and word `k` of the image is its
byte pair `k`. -/
theorem imageLoadIsBigEndian : Obligations.ImageLoadIsBigEndian := by
  intro image hbytes
  have hwords := imageWords_length image
  have hlen : (imageWords image).length ≤ Config.memWords := by rw [Config.memWords]; omega
  refine ⟨_, loadImage_eq_next image State.reset hlen, fun k hpair => ?_, fun k hk hend => ?_,
    fun p hp => State.writeWords_look_of_ne_mem _ _ _ p hp, State.writeWords_skip _ _ _⟩
  · have hk : k < Config.memWords := by rw [Config.memWords]; omega
    rw [State.reset_writeWords_readMem _ hlen k hk, imageWords_getElem? image k hpair]
    rfl
  · have hpast : (imageWords image)[k]? = none := List.getElem?_eq_none (by omega)
    rw [State.reset_writeWords_readMem _ hlen k hk, hpast]
    rfl

end Sys2Proof.Machine
end

section
/-! PROOFS. The state's invariant (log 11): what a performed instruction and a step can answer, each said once, and that
reset, every step, every host command and the image load keep the memory in canonical form. -/

namespace Sys2Proof.Machine

/-! ## What a performed instruction and a step can answer -/

/-- The next state of a performed instruction, by the shape of the instruction. An unknown opcode has none. -/
theorem exec_next_cases {i : Instr} {s t : State} (h : exec i s = .next t) :
    (∃ f a b, shapeOf i = .result ∧ i.operands = [a, b] ∧ t = writeResult f a b s) ∨
    (∃ f g a b, shapeOf i = .resultAndO ∧ i.operands = [a, b] ∧ t = writeResultAndO params f g a b s) ∨
    (∃ c a b, shapeOf i = .test ∧ i.operands = [a, b] ∧ t = testOperands c a b s) ∨
    (∃ a, i = .jsr a ∧ t = callTo params.jsrSpStep (resolve a s).acc (prepareExtended a s)) := by
  have hcases := exec_cases i s
  simp only [h, Host.Outcome.next.injEq, reduceCtorEq, and_false, or_false] at hcases
  exact hcases

theorem step_of_skip_false {s : State} (hs : s.skip = false) : step s = exec (fetch s) s := by
  simp [step, skipping, hs]

theorem step_of_skip_true {s : State} (hs : s.skip = true) : step s = .next (passOver (fetch s) s) := by
  simp [step, skipping, hs]

/-! ## Every operation keeps the invariant -/

theorem writeResult_wf (f : Word → Word → Word) (a b : Operand) (s : State) (hw : s.wf = true) :
    (writeResult f a b s).wf = true :=
  Accessor.write_wf _ _ _ (by simpa using hw)

@[simp] theorem testOperands_wf (c : Word → Word → Bool) (a b : Operand) (s : State) :
    (testOperands c a b s).wf = s.wf := by
  simp [testOperands]

theorem callTo_wf (spStep : Word) (target : Accessor) (s : State) (hw : s.wf = true) :
    (callTo spStep target s).wf = true :=
  State.writeMem_wf (s.setSp (s.sp + spStep)) _ _ hw

@[simp] theorem passOver_wf (i : Instr) (s : State) : (passOver i s).wf = s.wf := rfl

/-- A performed instruction keeps the state's invariant. -/
theorem exec_wf {i : Instr} {s t : State} (hw : s.wf = true) (h : exec i s = .next t) : t.wf = true := by
  obtain ⟨f, a, b, -, -, rfl⟩ | ⟨f, g, a, b, -, -, rfl⟩ | ⟨c, a, b, -, -, rfl⟩ | ⟨a, -, rfl⟩ := exec_next_cases h
  · exact writeResult_wf f a b s hw
  · exact writeResultAndO_wf params f g a b s hw
  · exact (testOperands_wf c a b s).trans hw
  · exact callTo_wf _ _ _ (by simpa using hw)

/-- A step keeps the state's invariant, whether it skips or performs. -/
theorem step_wf {s t : State} (hw : s.wf = true) (h : step s = .next t) : t.wf = true := by
  cases hs : s.skip with
  | true =>
    rw [step_of_skip_true hs, Host.Outcome.next.injEq] at h
    rw [← h, passOver_wf, hw]
  | false =>
    rw [step_of_skip_false hs] at h
    exact exec_wf hw h

theorem State.put_wf (s : State) (p : Place) (v : Word) (hw : s.wf = true) : (s.put p v).wf = true := by
  cases p with
  | mem a => exact State.writeMem_wf s a v hw
  | reg _ | pc | sp | o => exact hw

/-- The host's step command keeps the state's invariant: a Fatal step leaves the state as it was. -/
theorem obey_step_wf (s : State) (hw : s.wf = true) : (obey .step s).1.wf = true := by
  cases hs : step s with
  | next t => simpa [obey, hs] using step_wf hw hs
  | fault r =>
    obtain ⟨pc, word⟩ := r
    simpa [obey, hs] using hw
  | refused r => simpa [obey, hs] using hw

/-! ## A canonical memory is determined by what it reads -/

theorem Memory.wfFrom_cons {lo k : Nat} {v : Word} {m : Memory} :
    Memory.wfFrom lo ((k, v) :: m) = true ↔
      lo ≤ k ∧ k < Config.memWords ∧ v ≠ Memory.unlisted ∧ Memory.wfFrom (k + 1) m = true := by
  simp only [Memory.wfFrom, Bool.and_eq_true, decide_eq_true_eq, and_assoc]

/-- The first listed address of a canonical memory is one of the 65536 and reads another word than an unlisted one. -/
theorem Memory.lookup_head {lo k : Nat} {v : Word} {m : Memory} (hw : Memory.wfFrom lo ((k, v) :: m) = true) :
    k < Config.memWords ∧ Memory.lookup ((k, v) :: m) k ≠ Memory.unlisted := by
  obtain ⟨-, hsize, hv, -⟩ := Memory.wfFrom_cons.mp hw
  exact ⟨hsize, by simpa [Memory.lookup] using hv⟩

/-- Of two canonical memories, the second does not start above the first, if both read alike where the first starts: the
first lists that address, and an address below the second's start is unlisted. -/
theorem Memory.head_address_le {lo lo' k k' : Nat} {v v' : Word} {m m' : Memory}
    (hw : Memory.wfFrom lo ((k, v) :: m) = true) (hw' : Memory.wfFrom lo' ((k', v') :: m') = true)
    (hread : Memory.lookup ((k, v) :: m) k = Memory.lookup ((k', v') :: m') k) : k' ≤ k := by
  by_contra hlt
  obtain ⟨-, hrest⟩ := Memory.wfFrom_cons.mp hw'
  have hbelow : Memory.lookup ((k', v') :: m') k = Memory.unlisted :=
    Memory.lookup_below (lo := k') _ (Memory.wfFrom_cons.mpr ⟨le_rfl, hrest⟩) (by omega)
  exact (Memory.lookup_head hw).2 (hread.trans hbelow)

/-- Canonical memories that read alike at every address are the same list. -/
theorem Memory.eq_of_lookup_eq {lo lo' : Nat} (m m' : Memory) (hw : Memory.wfFrom lo m = true)
    (hw' : Memory.wfFrom lo' m' = true)
    (hread : ∀ a, a < Config.memWords → Memory.lookup m a = Memory.lookup m' a) : m = m' := by
  induction m generalizing lo lo' m' with
  | nil =>
    cases m' with
    | nil => rfl
    | cons e' m' =>
      obtain ⟨hsize, hlisted⟩ := Memory.lookup_head hw'
      exact absurd (hread _ hsize).symm hlisted
  | cons e m ih =>
    obtain ⟨k, v⟩ := e
    obtain ⟨hsize, hlisted⟩ := Memory.lookup_head hw
    cases m' with
    | nil => exact absurd (hread k hsize) hlisted
    | cons e' m' =>
      obtain ⟨k', v'⟩ := e'
      have hle := Memory.head_address_le hw hw' (hread k hsize)
      have hge := Memory.head_address_le hw' hw (hread k' (Memory.lookup_head hw').1).symm
      obtain rfl : k = k' := by omega
      have hv : v = v' := by simpa [Memory.lookup] using hread k hsize
      obtain ⟨-, -, -, htail⟩ := Memory.wfFrom_cons.mp hw
      obtain ⟨-, -, -, htail'⟩ := Memory.wfFrom_cons.mp hw'
      have hrest (a : Nat) (ha : a < Config.memWords) : Memory.lookup m a = Memory.lookup m' a := by
        by_cases hak : a = k
        · rw [Memory.lookup_below m htail (by omega), Memory.lookup_below m' htail' (by omega)]
        · simpa [Memory.lookup, hak] using hread a ha
      rw [hv, ih m' htail htail' hrest]

/-! ## The statements -/

/-- Settles O3: a skipping step leaves memory alone, and a performed instruction is one of four operations that each
keep the invariant. -/
theorem stepKeepsMemoryCanonical : Obligations.StepKeepsMemoryCanonical :=
  fun _ _ hw h => step_wf hw h

/-- Settles O4, command by command. Only reset, step and write touch memory; the image load is a run of stores. -/
theorem hostCommandsKeepMemoryCanonical : Obligations.HostCommandsKeepMemoryCanonical := by
  refine ⟨fun c s hw => ?_, fun image s t hw h => ?_⟩
  · cases c with
    | reset => exact State.reset_wf
    | step => exact obey_step_wf s hw
    | write p v => exact State.put_wf s p v hw
    | disasm _ | read _ | readSkip | writeSkip _ => exact hw
  · unfold loadImage at h
    split at h
    · cases h
    · cases h
      exact State.writeWords_wf _ s 0 hw

/-- Settles O5: every address below 65536 is that of a Word, so the two lists agree entry by entry. -/
theorem canonicalMemoryIsUnique : Obligations.CanonicalMemoryIsUnique := by
  intro m m' hw hw' hread
  refine Memory.eq_of_lookup_eq m m' hw hw' fun a ha => ?_
  have hword : (BitVec.ofNat 16 a).toNat = a := (BitVec.toNat_ofNat a 16).trans (Nat.mod_eq_of_lt ha)
  simpa only [Memory.read, hword] using hread (BitVec.ofNat 16 a)

/-- Settles O1: the fields of the reset state, the general registers one by one; no cell is listed. -/
theorem resetState : Obligations.ResetState := by
  refine ⟨fun r => ?_, rfl, rfl, rfl, rfl, fun _ => rfl⟩
  cases r <;> rfl

/-- Settles O2. -/
theorem resetMemoryCanonical : Obligations.ResetMemoryCanonical := State.reset_wf

end Sys2Proof.Machine
end

section
/-! PROOFS. The decoder and the encoder (30_encoding.md): each is the other's inverse, the length and the extra words of a
decoded instruction, and exactly the illegal words are unknown opcodes. Everything rests on two facts: an instruction is
what its opcode's row selects, and an operand is what its code selects. -/

namespace Sys2Proof

open Sys2Proof.Machine

/-! ## Operands and their extra words -/

theorem Operand.extraWords_eq_nil_or_singleton (op : Operand) :
    op.extraWords = [] ∨ ∃ k, op.extraWords = [k] := by
  cases op with
  | indOff _ k | nw k | lit k => exact .inr ⟨k, rfl⟩
  | reg _ | ind _ | pop | peek | push | sp | pc | o | small _ => exact .inl rfl

/-- The extra word of a decoded operand, counted by the operand itself. -/
theorem decodeOperand_extraWords_eq_take (c : BitVec 6) (k : Word) :
    (decodeOperand c k).extraWords = [k].take (decodeOperand c k).extra := by
  rw [decodeOperand_extraWords, decodeOperand_extra]
  unfold codeExtra
  split <;> rfl

/-! ## Every instruction is what its opcode selects -/

/-- The opcode in the first word of an instruction with two operands selects that instruction (30_encoding.md R59). -/
theorem decodeBasic_opcodeField {i : Instr} {a b : Operand} (h : i.operands = [a, b]) :
    opcodeField i.firstWord ≠ 0 ∧ decodeBasic (opcodeField i.firstWord) a b = i := by
  cases i
  all_goals
    simp only [Instr.operands, List.cons.injEq, reduceCtorEq, and_false, and_true] at h
  all_goals
    obtain ⟨rfl, rfl⟩ := h
    rw [Instr.firstWord, opcodeField_basicWord]
    exact ⟨by decide, rfl⟩

/-- The opcode in the first word of an instruction with one operand selects that instruction (30_encoding.md R60). -/
theorem decodeExtended_middleField {i : Instr} {a : Operand} (h : i.operands = [a]) :
    opcodeField i.firstWord = 0 ∧ decodeExtended (middleField i.firstWord) a = i := by
  cases i
  all_goals
    simp only [Instr.operands, List.cons.injEq, reduceCtorEq, and_false, and_true] at h
  all_goals
    obtain rfl := h
    rw [Instr.firstWord, extendedWord_eq, opcodeField_basicWord, middleField_basicWord]
    exact ⟨rfl, rfl⟩

theorem Instr.operands_eq_two_or_one (i : Instr) : (∃ a b, i.operands = [a, b]) ∨ ∃ a, i.operands = [a] := by
  cases i
  case set | add | sub | mul | div | mod | shl | shr | and | bor | xor | ife | ifn | ifg | ifb =>
    exact .inl ⟨_, _, rfl⟩
  all_goals exact .inr ⟨_, rfl⟩

/-- An instruction is a basic opcode's with two operands or an extended opcode's with one (30_encoding.md R52, R53). -/
theorem Instr.basic_or_extended (i : Instr) :
    (∃ o a b, o ≠ 0 ∧ i = decodeBasic o a b) ∨ ∃ x a, i = decodeExtended x a := by
  obtain ⟨a, b, h⟩ | ⟨a, h⟩ := i.operands_eq_two_or_one
  · obtain ⟨ho, hi⟩ := decodeBasic_opcodeField h
    exact .inl ⟨_, a, b, ho, hi.symm⟩
  · exact .inr ⟨_, a, (decodeExtended_middleField h).2.symm⟩

theorem decodeBasic_operands {o : BitVec 4} (a b : Operand) (ho : o ≠ 0) : (decodeBasic o a b).operands = [a, b] :=
  (decodeBasic_spec o a b ho).2

theorem decodeExtended_operands (x : BitVec 6) (a : Operand) : (decodeExtended x a).operands = [a] :=
  (decodeExtended_spec x a).2

theorem decodeBasic_firstWord {o : BitVec 4} (a b : Operand) (ho : o ≠ 0) :
    (decodeBasic o a b).firstWord = basicWord o a.code b.code :=
  (decodeBasic_spec o a b ho).1

theorem decodeExtended_firstWord (x : BitVec 6) (a : Operand) :
    (decodeExtended x a).firstWord = basicWord 0 x a.code :=
  (decodeExtended_spec x a).1

/-! ## Lengths -/

theorem Instr.length_of_two {i : Instr} {a b : Operand} (h : i.operands = [a, b]) :
    i.length = 1 + a.extra + b.extra := by
  simp [Instr.length, h, Nat.add_assoc]

theorem Instr.length_of_one {i : Instr} {a : Operand} (h : i.operands = [a]) : i.length = 1 + a.extra := by
  simp [Instr.length, h]

/-- The extra words of an instruction are one less than its words. -/
theorem Instr.length_flatMap_extraWords (i : Instr) :
    (i.operands.flatMap Operand.extraWords).length + 1 = i.length := by
  rw [Instr.length, List.length_flatMap, Nat.add_comm]
  rfl

/-! ## The decoder on the fields of a word -/

/-- A basic word: operand b's extra word is the first one that operand a leaves (30_encoding.md R58). -/
theorem decodeTriple_of_basic {w : Word} (hw : opcodeField w ≠ 0) (k₁ k₂ : Word) :
    ∃ a b, a = decodeOperand (middleField w) k₁ ∧ b = decodeOperand (upperField w) (if a.extra = 0 then k₁ else k₂) ∧
      decodeTriple w k₁ k₂ = decodeBasic (opcodeField w) a b :=
  ⟨_, _, rfl, rfl, if_neg hw⟩

theorem decodeTriple_of_extended {w : Word} (hw : opcodeField w = 0) (k₁ k₂ : Word) :
    decodeTriple w k₁ k₂ = decodeExtended (middleField w) (decodeOperand (upperField w) k₁) :=
  if_pos hw

/-! ## What the decoder reads, the encoder writes -/

/-- The first word of a decoded instruction is the word it was decoded from. -/
theorem decodeTriple_firstWord (w k₁ k₂ : Word) : (decodeTriple w k₁ k₂).firstWord = w := by
  by_cases hw : opcodeField w = 0
  · rw [decodeTriple_of_extended hw, decodeExtended_firstWord, decodeOperand_has_code, ← hw, basicWord_fields]
  · obtain ⟨a, b, rfl, rfl, hi⟩ := decodeTriple_of_basic hw k₁ k₂
    rw [hi, decodeBasic_firstWord _ _ hw, decodeOperand_has_code, decodeOperand_has_code, basicWord_fields]

theorem decodeTriple_wellFormed (w k₁ k₂ : Word) : (decodeTriple w k₁ k₂).wellFormed = true := by
  by_cases hw : opcodeField w = 0
  · simp [decodeTriple_of_extended hw, Instr.wellFormed, decodeExtended_operands, decodeOperand_wellFormed]
  · obtain ⟨a, b, rfl, rfl, hi⟩ := decodeTriple_of_basic hw k₁ k₂
    simp [hi, Instr.wellFormed, decodeBasic_operands _ _ hw, decodeOperand_wellFormed]

/-- The operand codes of the first word give the length (30_encoding.md R54). -/
theorem decodeTriple_length (w k₁ k₂ : Word) : (decodeTriple w k₁ k₂).length = wordLength w := by
  by_cases hw : opcodeField w = 0
  · rw [decodeTriple_of_extended hw, Instr.length_of_one (decodeExtended_operands _ _), decodeOperand_extra, wordLength,
      if_pos hw]
  · obtain ⟨a, b, rfl, rfl, hi⟩ := decodeTriple_of_basic hw k₁ k₂
    rw [hi, Instr.length_of_two (decodeBasic_operands _ _ hw), decodeOperand_extra, decodeOperand_extra, wordLength,
      if_neg hw]

/-- Two operands decoded one after the other consume the words after the first in order (30_encoding.md R57, R58). -/
theorem extraWords_append_of_decoded (ca cb : BitVec 6) (k₁ k₂ : Word) (a b : Operand) (ha : a = decodeOperand ca k₁)
    (hb : b = decodeOperand cb (if a.extra = 0 then k₁ else k₂)) :
    a.extraWords ++ b.extraWords = [k₁, k₂].take (a.extra + b.extra) := by
  have hwa : a.extraWords = [k₁].take a.extra := ha ▸ decodeOperand_extraWords_eq_take ca k₁
  have hwb : b.extraWords = [if a.extra = 0 then k₁ else k₂].take b.extra :=
    hb ▸ decodeOperand_extraWords_eq_take cb _
  have hla := a.extra_le_one
  have hlb := b.extra_le_one
  rw [hwa, hwb]
  generalize a.extra = n at *
  generalize b.extra = m at *
  interval_cases n <;> interval_cases m <;> rfl

/-- The extra words of a decoded instruction are the words after the first, as many as its length says. -/
theorem decodeTriple_extraWords (w k₁ k₂ : Word) :
    (decodeTriple w k₁ k₂).operands.flatMap Operand.extraWords =
      [k₁, k₂].take ((decodeTriple w k₁ k₂).length - 1) := by
  by_cases hw : opcodeField w = 0
  · have hops := decodeExtended_operands (middleField w) (decodeOperand (upperField w) k₁)
    rw [decodeTriple_of_extended hw, Instr.length_of_one hops, hops]
    have hle := (decodeOperand (upperField w) k₁).extra_le_one
    simp only [List.flatMap_cons, List.flatMap_nil, List.append_nil, Nat.add_sub_cancel_left]
    rw [decodeOperand_extraWords_eq_take]
    generalize (decodeOperand (upperField w) k₁).extra = n at *
    interval_cases n <;> rfl
  · obtain ⟨a, b, ha, hb, hi⟩ := decodeTriple_of_basic hw k₁ k₂
    have hops := decodeBasic_operands a b hw
    rw [hi, Instr.length_of_two hops, hops, Nat.add_assoc, Nat.add_sub_cancel_left,
      ← extraWords_append_of_decoded _ _ k₁ k₂ a b ha hb]
    simp

/-! ## What the encoder writes, the decoder reads -/

/-- A well-formed operand is read back from its code and its extra word, if it has one, at the head of a list. -/
theorem decodeOperand_of_encoded (op : Operand) (h : op.wellFormed = true) (ws : List Word) :
    decodeOperand op.code ((op.extraWords ++ ws).getD 0 0) = op := by
  refine decodeOperand_of_code op h _ ?_
  obtain hx | ⟨k, hx⟩ := op.extraWords_eq_nil_or_singleton
  · exact .inl hx
  · exact .inr (by simp [hx])

/-- The first word that operand a leaves is the first one after its extra word (30_encoding.md R58). -/
theorem getD_after_extraWords (a : Operand) (ws : List Word) :
    (if a.extra = 0 then (a.extraWords ++ ws).getD 0 0 else (a.extraWords ++ ws).getD 1 0) = ws.getD 0 0 := by
  obtain hx | ⟨k, hx⟩ := a.extraWords_eq_nil_or_singleton
  · simp [Operand.extra, hx]
  · simp [Operand.extra, hx]

/-- The two words after the first one are all that the decoder looks at, whatever follows the instruction. -/
theorem decodeTriple_of_encoded (i : Instr) (h : i.wellFormed = true) (rest : List Word) :
    decodeTriple i.firstWord ((i.operands.flatMap Operand.extraWords ++ rest).getD 0 0)
      ((i.operands.flatMap Operand.extraWords ++ rest).getD 1 0) = i := by
  obtain ⟨o, a, b, ho, rfl⟩ | ⟨x, a, rfl⟩ := i.basic_or_extended
  · rw [Instr.wellFormed, decodeBasic_operands a b ho] at h
    obtain ⟨hwa, hwb⟩ : a.wellFormed = true ∧ b.wellFormed = true := by simpa using h
    simp only [decodeBasic_operands a b ho, decodeBasic_firstWord a b ho, decodeTriple, opcodeField_basicWord,
      middleField_basicWord, upperField_basicWord, if_neg ho, List.flatMap_cons, List.flatMap_nil, List.append_nil,
      List.append_assoc, decodeOperand_of_encoded a hwa, getD_after_extraWords, decodeOperand_of_encoded b hwb]
  · rw [Instr.wellFormed, decodeExtended_operands] at h
    have hwa : a.wellFormed = true := by simpa using h
    simp only [decodeExtended_operands, decodeExtended_firstWord, decodeTriple, opcodeField_basicWord,
      middleField_basicWord, upperField_basicWord, if_true, List.flatMap_cons, List.flatMap_nil, List.append_nil,
      decodeOperand_of_encoded a hwa]

/-! ## The decoder on a list of words -/

/-- The decoder answers on a list that is long enough for the instruction at its head. -/
theorem decode_cons_of_length_le {w : Word} {ws : List Word} {i : Instr}
    (hi : decodeTriple w (ws.getD 0 0) (ws.getD 1 0) = i) (hlen : i.length ≤ ws.length + 1) :
    decode (w :: ws) = .ok (i, ws.drop (i.length - 1)) := by
  subst hi
  exact if_neg (by omega)

/-- What an answer of the decoder says about the list. -/
theorem decode_eq_ok {ws : List Word} {i : Instr} {rest : List Word} (h : decode ws = .ok (i, rest)) :
    ∃ w ks, ws = w :: ks ∧ decodeTriple w (ks.getD 0 0) (ks.getD 1 0) = i ∧ i.length ≤ ks.length + 1 ∧
      rest = ks.drop (i.length - 1) := by
  cases ws with
  | nil => cases h
  | cons w ks =>
    simp only [decode] at h
    split at h
    · cases h
    · next hlen =>
      cases h
      exact ⟨w, ks, rfl, rfl, by omega, rfl⟩

theorem decodeTriple_length_le_three (w k₁ k₂ : Word) : (decodeTriple w k₁ k₂).length ≤ 3 := by
  have hlen := congrArg List.length (decodeTriple_extraWords w k₁ k₂)
  have hone := Instr.length_flatMap_extraWords (decodeTriple w k₁ k₂)
  simp only [List.length_take, List.length_cons, List.length_nil] at hlen
  omega

/-- A word with two words after it always decodes (30_encoding.md R61, R62). -/
theorem decode_three (w k₁ k₂ : Word) :
    decode [w, k₁, k₂] = .ok (decodeTriple w k₁ k₂, [k₁, k₂].drop ((decodeTriple w k₁ k₂).length - 1)) :=
  decode_cons_of_length_le rfl (decodeTriple_length_le_three w k₁ k₂)

/-- The first words of a list, at most two of them, by its entries. -/
theorem take_getD_eq_take (ks : List Word) (n : Nat) (hn : n ≤ 2) (hlen : n ≤ ks.length) :
    [ks.getD 0 0, ks.getD 1 0].take n = ks.take n := by
  match ks, n with
  | [], n => simp at hlen; simp [hlen]
  | _ :: _, 0 => rfl
  | _ :: _, 1 => rfl
  | [_], 2 => simp at hlen
  | _ :: _ :: _, 2 => rfl

/-! ## Unknown opcodes -/

theorem shapeOf_decodeBasic {o : BitVec 4} (a b : Operand) (ho : o ≠ 0) :
    shapeOf (decodeBasic o a b) ≠ .unknown ∧ shapeOf (decodeBasic o a b) ≠ .call := by
  obtain ⟨⟨n, hn⟩⟩ := o
  have hn : n < 16 := hn
  interval_cases n
  · exact absurd rfl ho
  all_goals exact ⟨nofun, nofun⟩

/-- JSR is extended opcode 1, and the other 63 are unknown (30_encoding.md R60, R62). -/
theorem shapeOf_decodeExtended (x : BitVec 6) (a : Operand) :
    shapeOf (decodeExtended x a) = if x = 0x01 then .call else .unknown := by
  obtain ⟨⟨n, hn⟩⟩ := x
  have hn : n < 64 := hn
  interval_cases n <;> rfl

/-- Exactly the illegal words decode to an unknown opcode (30_encoding.md R62). -/
theorem shapeOf_decodeTriple_unknown_iff (w k₁ k₂ : Word) :
    shapeOf (decodeTriple w k₁ k₂) = .unknown ↔ opcodeField w = 0 ∧ middleField w ≠ 0x01 := by
  by_cases hw : opcodeField w = 0
  · simp [decodeTriple_of_extended hw, shapeOf_decodeExtended, hw]
  · obtain ⟨a, b, -, -, hi⟩ := decodeTriple_of_basic hw k₁ k₂
    exact iff_of_false (hi ▸ (shapeOf_decodeBasic a b hw).1) fun h => hw h.1

/-! ## The statements -/

/-- Settles O7: the first word's fields are the opcode and the operand codes, and the extra words stand where the decoder
looks for them. -/
theorem encodeThenDecode : Obligations.EncodeThenDecode := by
  intro i rest h
  have hlen := i.length_flatMap_extraWords
  rw [encode, List.cons_append, decode_cons_of_length_le (decodeTriple_of_encoded i h rest)
      (by rw [List.length_append]; omega),
    List.drop_left' (by omega)]

/-- Settles O8: the decoded instruction's first word is the list's first, and its extra words are the ones the decoder
dropped. -/
theorem decodeThenEncode : Obligations.DecodeThenEncode := by
  intro ws i rest h
  obtain ⟨w, ks, rfl, rfl, hlen, rfl⟩ := decode_eq_ok h
  have hthree := decodeTriple_length_le_three w (ks.getD 0 0) (ks.getD 1 0)
  refine ⟨?_, decodeTriple_wellFormed _ _ _⟩
  rw [encode, decodeTriple_firstWord, decodeTriple_extraWords, take_getD_eq_take ks _ (by omega) (by omega),
    List.cons_append, List.take_append_drop]

/-- Settles O9: the length is the one of the first word's operand codes, and the extra words are taken in order from the
two words after it. -/
theorem lengthAndExtraWords : Obligations.LengthAndExtraWords := by
  refine ⟨fun c k => ?_, fun m a => ?_⟩
  · rw [decodeOperand_extraWords, codeExtra]
    split <;> rfl
  · have hlen : (instrAt m a).length = wordLength (m.read a) := decodeTriple_length _ _ _
    have hone := (instrAt m a).length_flatMap_extraWords
    refine ⟨hlen, by omega, fun hw => ?_, fun _ => decodeTriple_length_le_three _ _ _, decodeTriple_extraWords _ _ _⟩
    rw [hlen, wordLength, if_pos hw, codeExtra]
    split <;> omega

/-- Settles O10. -/
theorem everyWordIsOneRow : Obligations.EveryWordIsOneRow :=
  fun w k₁ k₂ =>
    ⟨⟨_, _, decode_three w k₁ k₂⟩, decodeTriple_firstWord w k₁ k₂, shapeOf_decodeTriple_unknown_iff w k₁ k₂⟩

/-- Settles O11: the decoder evaluated on each of the words. -/
theorem sampleWordsDecode : Obligations.SampleWordsDecode :=
  ⟨rfl, rfl, rfl, rfl, rfl, rfl, rfl, rfl⟩

end Sys2Proof
end

section
/-! PROOFS. The values of the basic instructions (42_basic_alu.md): each result and each value of O in the spec's own terms,
the closed forms of the shifts (R116, R117), the exactness of the arithmetic with O, and for SET to XOR what they write for
every operand form. -/

namespace Sys2Proof.Machine

/-! ## Numbers as words -/

@[simp] theorem toWord_toNat (n : Nat) : (toWord n).toNat = n % 65536 := rfl

theorem toWord_mod (n : Nat) : toWord (n % 65536) = toWord n := by
  apply BitVec.eq_of_toNat_eq
  simp

theorem word_eq_zero_iff (v : Word) : v.toNat = 0 ↔ v = 0 :=
  BitVec.toNat_inj (y := 0)

/-! ## Results and values of O (42_basic_alu.md section 1) -/

theorem addResult_eq (va vb : Word) : addResult va vb = va + vb :=
  BitVec.eq_of_toNat_eq (BitVec.toNat_add va vb).symm

theorem mulResult_eq (va vb : Word) : mulResult va vb = va * vb :=
  BitVec.eq_of_toNat_eq (BitVec.toNat_mul va vb).symm

theorem mulO_eq (va vb : Word) : mulO va vb = toWord (va.toNat * vb.toNat / 65536) := by
  rw [mulO, Nat.shiftRight_eq_div_pow]

theorem divResult_eq (va vb : Word) : divResult va vb = va / vb := by
  have hle : va.toNat / vb.toNat ≤ va.toNat := Nat.div_le_self _ _
  have hlt := va.isLt
  apply BitVec.eq_of_toNat_eq
  rw [divResult, BitVec.toNat_udiv]
  split
  next h => simp [h]
  next => rw [toWord_toNat, Nat.mod_eq_of_lt (by omega)]

theorem divO_eq (va vb : Word) :
    divO va vb = if vb = 0 then 0 else toWord (va.toNat * 65536 / vb.toNat) := by
  simp only [divO, word_eq_zero_iff, Nat.shiftLeft_eq]

theorem modResult_eq (va vb : Word) : modResult va vb = if vb = 0 then 0 else va % vb := by
  have hle : va.toNat % vb.toNat ≤ va.toNat := Nat.mod_le _ _
  have hlt := va.isLt
  simp only [modResult, word_eq_zero_iff]
  congr 1
  apply BitVec.eq_of_toNat_eq
  rw [BitVec.toNat_umod, toWord_toNat, Nat.mod_eq_of_lt (by omega)]

theorem shlResult_eq (va vb : Word) : shlResult va vb = toWord (va.toNat * 2 ^ vb.toNat) := by
  rw [shlResult, Nat.shiftLeft_eq]

theorem shlO_eq (va vb : Word) : shlO va vb = toWord (va.toNat * 2 ^ vb.toNat / 65536) := by
  rw [shlO, Nat.shiftLeft_eq, Nat.shiftRight_eq_div_pow]

theorem shrResult_eq (va vb : Word) : shrResult va vb = toWord (va.toNat / 2 ^ vb.toNat) := by
  rw [shrResult, Nat.shiftRight_eq_div_pow]

theorem shrO_eq (va vb : Word) : shrO va vb = toWord (va.toNat * 65536 / 2 ^ vb.toNat) := by
  rw [shrO, Nat.shiftLeft_eq, Nat.shiftRight_eq_div_pow]

/-! ## Closed forms of the shifts -/

/-- Up and then down by more: only the difference is left. -/
theorem shiftLeft_shiftRight_of_le (n : Nat) {k m : Nat} (h : k ≤ m) : n <<< k >>> m = n >>> (m - k) := by
  obtain ⟨d, rfl⟩ := Nat.exists_eq_add_of_le h
  rw [Nat.shiftRight_add, Nat.shiftLeft_shiftRight, Nat.add_sub_cancel_left]

/-- Up and then down by less: only the difference is left. -/
theorem shiftLeft_shiftRight_of_ge (n : Nat) {k m : Nat} (h : m ≤ k) : n <<< k >>> m = n <<< (k - m) := by
  obtain ⟨d, rfl⟩ := Nat.exists_eq_add_of_le' h
  rw [Nat.shiftLeft_add, Nat.shiftLeft_shiftRight, Nat.add_sub_cancel]

theorem toWord_shiftLeft (v : Word) (n : Nat) : toWord (v.toNat <<< n) = v <<< n :=
  BitVec.eq_of_toNat_eq (BitVec.toNat_shiftLeft).symm

theorem toWord_shiftRight (v : Word) (n : Nat) : toWord (v.toNat >>> n) = v >>> n := by
  have hle : v.toNat >>> n ≤ v.toNat := Nat.shiftRight_le _ _
  have hlt := v.isLt
  apply BitVec.eq_of_toNat_eq
  rw [toWord_toNat, BitVec.toNat_ushiftRight, Nat.mod_eq_of_lt (by omega)]

theorem word_shiftLeft_eq_zero (v : Word) {n : Nat} (h : 16 ≤ n) : v <<< n = 0 :=
  BitVec.shiftLeft_eq_zero h

theorem word_shiftRight_eq_zero (v : Word) {n : Nat} (h : 16 ≤ n) : v >>> n = 0 :=
  BitVec.ushiftRight_eq_zero h

theorem shlResult_eq_shiftLeft (va vb : Word) : shlResult va vb = va <<< vb.toNat :=
  toWord_shiftLeft va vb.toNat

theorem shrResult_eq_shiftRight (va vb : Word) : shrResult va vb = va >>> vb.toNat :=
  toWord_shiftRight va vb.toNat

theorem shlO_of_le {va vb : Word} (h : vb.toNat ≤ 16) : shlO va vb = va >>> (16 - vb.toNat) := by
  rw [shlO, shiftLeft_shiftRight_of_le _ h, toWord_shiftRight]

theorem shlO_of_ge {va vb : Word} (h : 16 ≤ vb.toNat) : shlO va vb = va <<< (vb.toNat - 16) := by
  rw [shlO, shiftLeft_shiftRight_of_ge _ h, toWord_shiftLeft]

theorem shrO_of_le {va vb : Word} (h : vb.toNat ≤ 16) : shrO va vb = va <<< (16 - vb.toNat) := by
  rw [shrO, shiftLeft_shiftRight_of_ge _ h, toWord_shiftLeft]

theorem shrO_of_ge {va vb : Word} (h : 16 ≤ vb.toNat) : shrO va vb = va >>> (vb.toNat - 16) := by
  rw [shrO, shiftLeft_shiftRight_of_le _ h, toWord_shiftRight]

/-- Settles O40: a shift and the shift that forms O compose to one shift by the difference of the counts. -/
theorem shiftClosedForms : Obligations.ShiftClosedForms := by
  intro va vb
  rw [shlResult_eq_shiftLeft, shrResult_eq_shiftRight]
  refine ⟨fun h => ⟨rfl, shlO_of_le (by omega)⟩, fun h _ => ⟨word_shiftLeft_eq_zero va h, shlO_of_ge h⟩,
    fun h => ⟨rfl, shrO_of_le h⟩, fun h _ => ⟨word_shiftRight_eq_zero va (by omega), shrO_of_ge (by omega)⟩,
    fun h => ⟨word_shiftLeft_eq_zero va (by omega), ?_, word_shiftRight_eq_zero va (by omega), ?_⟩⟩
  · rw [shlO_of_ge (by omega), word_shiftLeft_eq_zero va (by omega)]
  · rw [shrO_of_ge (by omega), word_shiftRight_eq_zero va (by omega)]

/-! ## Exactness of the arithmetic with O -/

/-- A number below 2^32 is its high word and its low word. -/
theorem high_low_words {n : Nat} (h : n < 65536 * 65536) :
    (toWord (n / 65536)).toNat * 65536 + (toWord n).toNat = n := by
  simp only [toWord_toNat]
  omega

theorem addO_addResult_exact (va vb : Word) :
    (addO va vb).toNat * 65536 + (addResult va vb).toNat = va.toNat + vb.toNat := by
  have ha := va.isLt
  have hb := vb.isLt
  rw [addO, addResult, toWord_toNat]
  split <;> simp only [BitVec.ofNat_eq_ofNat, BitVec.toNat_ofNat] <;> omega

theorem subO_subResult_exact (va vb : Word) :
    (subResult va vb).toNat + vb.toNat = va.toNat + (if subO va vb = 0xFFFF then 65536 else 0) := by
  rw [subResult, subO]
  split <;> simp <;> bv_omega

theorem mulO_mulResult_exact (va vb : Word) :
    (mulO va vb).toNat * 65536 + (mulResult va vb).toNat = va.toNat * vb.toNat := by
  rw [mulO_eq, mulResult]
  exact high_low_words (Nat.mul_lt_mul'' va.isLt vb.isLt)

/-- The quotient with 16 fraction bits: its high word is the plain quotient. -/
theorem divResult_divO_exact {va vb : Word} (h : vb ≠ 0) :
    (divResult va vb).toNat * 65536 + (divO va vb).toNat = va.toNat * 65536 / vb.toNat := by
  have hlt := va.isLt
  have hpos : 0 < vb.toNat := Nat.pos_of_ne_zero fun h0 => h ((word_eq_zero_iff vb).mp h0)
  have hhigh : va.toNat * 65536 / vb.toNat / 65536 = va.toNat / vb.toNat := by
    rw [Nat.div_div_eq_div_mul, Nat.mul_comm vb.toNat, ← Nat.div_div_eq_div_mul, Nat.mul_div_cancel _ (by decide)]
  have hbound : va.toNat * 65536 / vb.toNat < 65536 * 65536 :=
    (Nat.div_le_self _ _).trans_lt (by omega)
  rw [divO_eq, if_neg h, divResult, if_neg hpos.ne', ← hhigh, high_low_words hbound]

theorem divResult_modResult_exact {va vb : Word} (h : vb ≠ 0) :
    (divResult va vb).toNat * vb.toNat + (modResult va vb).toNat = va.toNat ∧
      (modResult va vb).toNat < vb.toNat := by
  have hpos : 0 < vb.toNat := Nat.pos_of_ne_zero fun h0 => h ((word_eq_zero_iff vb).mp h0)
  rw [divResult_eq, modResult_eq, if_neg h, BitVec.toNat_udiv, BitVec.toNat_umod]
  exact ⟨Nat.div_add_mod' _ _, Nat.mod_lt _ hpos⟩

/-- Settles O41, instruction by instruction. -/
theorem overflowRegisterMakesArithmeticExact : Obligations.OverflowRegisterMakesArithmeticExact := by
  intro va vb
  refine ⟨addO_addResult_exact va vb, subO_subResult_exact va vb, ?_, mulO_mulResult_exact va vb,
    divResult_divO_exact, divResult_modResult_exact, ?_⟩
  · rw [subO]
    split
    · exact .inr rfl
    · exact .inl rfl
  · rintro rfl
    exact ⟨rfl, rfl, rfl⟩

/-! ## SET to XOR for every operand form -/

/-- `writeResult` writes any function that has the result's values. -/
theorem writeResult_spec_of_eq {i : Instr} {a b : Operand} {s : State} {f f' : Word → Word → Word}
    (hops : i.operands = [a, b]) (hw : s.wf = true) (hf : ∀ va vb, f va vb = f' va vb) :
    WritesResult i f' a b s (writeResult f a b s) := by
  obtain rfl : f = f' := funext₂ hf
  exact writeResult_spec i f a b s hops hw

/-- `writeResultAndO`, at the machine's parameters, writes any two functions that have the result's and the side value's
values. -/
theorem writeResultAndO_spec_of_eq {i : Instr} {a b : Operand} {s : State} {f f' g g' : Word → Word → Word}
    (hops : i.operands = [a, b]) (hw : s.wf = true) (hf : ∀ va vb, f va vb = f' va vb)
    (hg : ∀ va vb, g va vb = g' va vb) :
    WritesResultAndO i f' g' a b s (writeResultAndO params f g a b s) := by
  obtain rfl : f = f' := funext₂ hf
  obtain rfl : g = g' := funext₂ hg
  exact writeResultAndO_spec params rfl i f g a b s hops hw

/-- Settles O21. -/
theorem setCopiesSource : Obligations.SetCopiesSource :=
  fun a b s hw => ⟨opcodeField_basicWord _ _ _, _, rfl, writeResult_spec _ _ a b s rfl hw⟩

/-- Settles O22: the machine's sum is reduced from the natural numbers. -/
theorem addWritesSumAndCarry : Obligations.AddWritesSumAndCarry :=
  fun _ _ _ hw =>
    ⟨opcodeField_basicWord _ _ _, _, rfl, writeResultAndO_spec_of_eq rfl hw addResult_eq fun _ _ => rfl⟩

/-- Settles O23. -/
theorem subWritesDifferenceAndBorrow : Obligations.SubWritesDifferenceAndBorrow :=
  fun a b s hw =>
    ⟨opcodeField_basicWord _ _ _, _, rfl, writeResultAndO_spec params rfl _ subResult subO a b s rfl hw⟩

/-- Settles O24: the machine's high word is a shift of the product. -/
theorem mulWritesLowAndHighWord : Obligations.MulWritesLowAndHighWord :=
  fun _ _ _ hw => ⟨opcodeField_basicWord _ _ _, _, rfl, writeResultAndO_spec_of_eq rfl hw mulResult_eq mulO_eq⟩

/-- Settles O25: division of words is unsigned and 0 for a zero divisor. -/
theorem divWritesQuotientAndFraction : Obligations.DivWritesQuotientAndFraction :=
  fun _ _ _ hw => ⟨opcodeField_basicWord _ _ _, _, rfl, writeResultAndO_spec_of_eq rfl hw divResult_eq divO_eq⟩

/-- Settles O26. -/
theorem modWritesRemainder : Obligations.ModWritesRemainder :=
  fun _ _ _ hw => ⟨opcodeField_basicWord _ _ _, _, rfl, writeResult_spec_of_eq rfl hw modResult_eq⟩

/-- Settles O27: a left shift is a product with a power of two. -/
theorem shlWritesShiftedAndHighBits : Obligations.ShlWritesShiftedAndHighBits :=
  fun _ _ _ hw => ⟨opcodeField_basicWord _ _ _, _, rfl, writeResultAndO_spec_of_eq rfl hw shlResult_eq shlO_eq⟩

/-- Settles O28: a right shift is a quotient by a power of two. -/
theorem shrWritesShiftedAndLowBits : Obligations.ShrWritesShiftedAndLowBits :=
  fun _ _ _ hw => ⟨opcodeField_basicWord _ _ _, _, rfl, writeResultAndO_spec_of_eq rfl hw shrResult_eq shrO_eq⟩

/-- Settles O29. -/
theorem andWritesConjunction : Obligations.AndWritesConjunction :=
  fun a b s hw => ⟨opcodeField_basicWord _ _ _, _, rfl, writeResult_spec _ andResult a b s rfl hw⟩

/-- Settles O30. -/
theorem borWritesDisjunction : Obligations.BorWritesDisjunction :=
  fun a b s hw => ⟨opcodeField_basicWord _ _ _, _, rfl, writeResult_spec _ borResult a b s rfl hw⟩

/-- Settles O31. -/
theorem xorWritesExclusiveOr : Obligations.XorWritesExclusiveOr :=
  fun a b s hw => ⟨opcodeField_basicWord _ _ _, _, rfl, writeResult_spec _ xorResult a b s rfl hw⟩

end Sys2Proof.Machine
end

section
/-! PROOFS. The conditionals (43_conditional.md), JSR (44_extended.md) with its corner cases and its return, the two open
parameters at every value, and several stack operands (41_operand_resolver.md R100, R101). -/

namespace Sys2Proof.Machine

/-! ## The conditionals -/

/-- `testOperands` sets the skip flag unless the condition that its test decides holds. -/
theorem testOperands_spec_of_iff {i : Instr} {a b : Operand} {c : Word → Word → Bool} {P : Word → Word → Prop}
    (hops : i.operands = [a, b]) (s : State) (hc : ∀ va vb, c va vb = true ↔ P va vb) :
    SetsSkip i P a b s (testOperands c a b s) := by
  obtain rfl : (fun va vb => c va vb = true) = P := funext₂ fun va vb => propext (hc va vb)
  exact testOperands_spec i c a b s hops

theorem ifeCondition_iff (va vb : Word) : ifeCondition va vb = true ↔ va = vb := beq_iff_eq

theorem ifnCondition_iff (va vb : Word) : ifnCondition va vb = true ↔ va ≠ vb := bne_iff_ne

theorem ifgCondition_iff (va vb : Word) : ifgCondition va vb = true ↔ va.toNat > vb.toNat := decide_eq_true_iff

/-- IFB's condition: a word is 0 exactly if it has no set bit. -/
theorem ifbCondition_iff (va vb : Word) :
    ifbCondition va vb = true ↔ ∃ n, n < 16 ∧ va.getLsbD n = true ∧ vb.getLsbD n = true := by
  have hzero : va &&& vb = 0 ↔ ∀ n, n < 16 → ¬(va.getLsbD n = true ∧ vb.getLsbD n = true) := by
    refine ⟨fun h n _ hn => ?_, fun h => BitVec.eq_of_getLsbD_eq fun n hn => ?_⟩
    · have hbit : (va &&& vb).getLsbD n = false := by rw [h]; exact BitVec.getLsbD_zero
      simp [hn.1, hn.2] at hbit
    · simpa using h n hn
  rw [ifbCondition, bne_iff_ne, ne_eq, hzero]
  push Not
  rfl

/-- Settles O32. -/
theorem ifeSkipsUnlessEqual : Obligations.IfeSkipsUnlessEqual :=
  fun _ _ s => ⟨opcodeField_basicWord _ _ _, _, rfl, testOperands_spec_of_iff rfl s ifeCondition_iff⟩

/-- Settles O33. -/
theorem ifnSkipsUnlessDifferent : Obligations.IfnSkipsUnlessDifferent :=
  fun _ _ s => ⟨opcodeField_basicWord _ _ _, _, rfl, testOperands_spec_of_iff rfl s ifnCondition_iff⟩

/-- Settles O34. -/
theorem ifgSkipsUnlessGreater : Obligations.IfgSkipsUnlessGreater :=
  fun _ _ s => ⟨opcodeField_basicWord _ _ _, _, rfl, testOperands_spec_of_iff rfl s ifgCondition_iff⟩

/-- Settles O35. -/
theorem ifbSkipsUnlessCommonBit : Obligations.IfbSkipsUnlessCommonBit :=
  fun _ _ s => ⟨opcodeField_basicWord _ _ _, _, rfl, testOperands_spec_of_iff rfl s ifbCondition_iff⟩

/-! ## JSR -/

/-- Settles O37. -/
theorem jsrAtEveryStep : Obligations.JsrAtEveryStep :=
  fun p a s hw => ⟨_, rfl, callTo_spec p.jsrSpStep a s hw⟩

/-- Settles O36: the machine runs with a step of minus one. -/
theorem jsrPushesReturnAddressAndJumps : Obligations.JsrPushesReturnAddressAndJumps :=
  fun a s hw => ⟨rfl, _, rfl, callTo_spec 0xFFFF a s hw⟩

theorem calls_of_exec_jsr {a : Operand} {s t : State} (hw : s.wf = true) (h : exec (.jsr a) s = .next t) :
    Calls 0xFFFF a s t := by
  obtain rfl := Host.Outcome.next.inj h
  exact callTo_spec 0xFFFF a s hw

/-! ### What a call leaves in each piece of state -/

section
variable {spStep : Word} {a : Operand} {s t : State}

theorem Calls.pc (h : Calls spStep a s t) :
    t.pc = if placeOf a s = some (.mem (spMove a s.sp + spStep)) then pcAfter (.jsr a) s
      else valueOf a s (pcAfter (.jsr a) s) (spMove a s.sp + spStep) := h.1 .pc

theorem Calls.sp (h : Calls spStep a s t) : t.sp = spMove a s.sp + spStep := h.1 .sp

theorem Calls.o (h : Calls spStep a s t) : t.o = s.o := h.1 .o

theorem Calls.reg (h : Calls spStep a s t) (r : Reg) : t.reg r = s.reg r := h.1 (.reg r)

theorem Calls.readMem_sp (h : Calls spStep a s t) : t.readMem t.sp = pcAfter (.jsr a) s := by
  rw [h.sp]
  exact (h.1 (.mem _)).trans (if_pos rfl)

theorem Calls.skip (h : Calls spStep a s t) : t.skip = s.skip := h.2

end

/-- The default of JSR_SP_STEP is minus one (D10; log 1). -/
theorem word_add_ffff (v : Word) : v + 0xFFFF = v - 1 := by bv_omega

/-- JSR as the corner cases of R143 speak of it: the target, the new SP, and the return address in the cell there. -/
theorem exec_jsr_spec (a : Operand) (s : State) (hw : s.wf = true) :
    ∃ t, exec (.jsr a) s = .next t ∧
      (t.pc = if placeOf a s = some (.mem (spMove a s.sp - 1)) then pcAfter (.jsr a) s
        else valueOf a s (pcAfter (.jsr a) s) (spMove a s.sp - 1)) ∧
      t.sp = spMove a s.sp - 1 ∧ t.readMem (spMove a s.sp - 1) = pcAfter (.jsr a) s := by
  have hcalls : Calls 0xFFFF a s _ := callTo_spec 0xFFFF a s hw
  have hpc := hcalls.pc
  have hsp := hcalls.sp
  have hread := hcalls.readMem_sp
  rw [hsp] at hread
  simp only [word_add_ffff] at hpc hsp hread
  exact ⟨_, rfl, hpc, hsp, hread⟩

/-- A jump to a value that the push does not touch: the operand names no memory cell, or another one. -/
theorem exec_jsr_of_not_pushed {a : Operand} {s : State} (hw : s.wf = true)
    (ha : placeOf a s ≠ some (.mem (spMove a s.sp - 1))) :
    ∃ t, exec (.jsr a) s = .next t ∧ t.pc = valueOf a s (pcAfter (.jsr a) s) (spMove a s.sp - 1) ∧
      t.sp = spMove a s.sp - 1 ∧ t.readMem (spMove a s.sp - 1) = pcAfter (.jsr a) s := by
  simpa only [if_neg ha] using exec_jsr_spec a s hw

/-- An operand in the cell that is pushed to reads as the return address (44_extended.md R143). -/
theorem exec_jsr_of_pushed {a : Operand} {s : State} (hw : s.wf = true)
    (ha : placeOf a s = some (.mem (spMove a s.sp - 1))) :
    ∃ t, exec (.jsr a) s = .next t ∧ t.pc = pcAfter (.jsr a) s ∧
      t.sp = spMove a s.sp - 1 ∧ t.readMem (spMove a s.sp - 1) = pcAfter (.jsr a) s := by
  simpa only [if_pos ha] using exec_jsr_spec a s hw

theorem word_add_one_sub_one (v : Word) : v + 1 - 1 = v := by bv_omega

theorem word_sub_one_sub_one (v : Word) : v - 1 - 1 = v - 2 := by bv_omega

theorem word_ne_sub_one (v : Word) : v ≠ v - 1 := by bv_omega

/-- Settles O46: in each case, whether the operand is the cell being pushed to decides which value is the target. -/
theorem jsrCornerCases : Obligations.JsrCornerCases := by
  intro s hw
  have hreg (r : Reg) := exec_jsr_of_not_pushed (a := .reg r) hw nofun
  refine ⟨hreg, fun r hr => ?_, ?_, ?_, ?_, ?_, ?_, ?_, fun v => ?_, fun hsp r => ?_⟩
  · obtain ⟨t, ht, hpc, -⟩ := exec_jsr_of_pushed (a := .ind r) hw (by simp [placeOf, spMove, hr])
    exact ⟨t, ht, hpc⟩
  · obtain ⟨t, ht, hpc, -⟩ := exec_jsr_of_pushed (a := .nw (s.sp - 1)) hw rfl
    exact ⟨t, ht, hpc⟩
  · have h := exec_jsr_of_pushed (a := .pop) hw (by simp [placeOf, spMove])
    rwa [spMove, word_add_one_sub_one] at h
  · exact exec_jsr_of_not_pushed (a := .peek) hw fun h => word_ne_sub_one _ (Place.mem.inj (Option.some.inj h))
  · have h := exec_jsr_of_not_pushed (a := .push) hw fun h =>
      word_ne_sub_one _ (Place.mem.inj (Option.some.inj h))
    rwa [spMove, word_sub_one_sub_one] at h
  · obtain ⟨t, ht, hpc, -⟩ := exec_jsr_of_not_pushed (a := .sp) (s := s) hw nofun
    exact ⟨t, ht, hpc⟩
  · exact exec_jsr_of_not_pushed (a := .pc) hw nofun
  · obtain ⟨t, ht, hpc, -⟩ := exec_jsr_of_not_pushed (a := .small v) (s := s) hw nofun
    exact ⟨t, ht, hpc⟩
  · obtain ⟨t, ht, -, -, hread⟩ := hreg r
    rw [spMove, hsp] at hread
    exact ⟨t, ht, hread⟩

/-! ## Stack operands -/

/-- General registers that read alike are equal. -/
theorem State.regs_eq_of_reg_eq {s t : State} (h : ∀ r, t.reg r = s.reg r) : t.regs = s.regs := by
  obtain ⟨⟨a, b, c, x, y, z, i, j⟩, _, _, _, _, _⟩ := s
  obtain ⟨⟨a', b', c', x', y', z', i', j'⟩, _, _, _, _, _⟩ := t
  simp only [Regs.mk.injEq]
  exact ⟨h .a, h .b, h .c, h .x, h .y, h .z, h .i, h .j⟩

/-- SET, POP reads the cell at SP and moves SP up by one. -/
theorem exec_set_pop_spec (a : Operand) (s : State) (hw : s.wf = true) :
    ∃ t, exec (.set a .pop) s = .next t ∧
      (∀ p, t.look p =
        if placeOf a s = some p then s.readMem s.sp
        else if p = .pc then pcAfter (.set a .pop) s
        else if p = .sp then spMove a s.sp + 1
        else s.look p) ∧
      t.skip = s.skip := by
  obtain ⟨-, t, ht, hlook, hskip⟩ := setCopiesSource a .pop s hw
  exact ⟨t, ht, hlook, hskip⟩

/-- Settles O43: both stack operands are resolved from the SP before the instruction, whatever the pre-effects do. -/
theorem twoStackOperands : Obligations.TwoStackOperands := by
  intro s hw
  refine ⟨?_, ?_, ?_⟩
  · obtain ⟨t, ht, hlook, -⟩ := exec_set_pop_spec .push s hw
    refine ⟨t, ht, (hlook .sp).trans (BitVec.sub_add_cancel s.sp 1), fun x => ?_⟩
    simpa [placeOf, eq_comm] using hlook (.mem x)
  · obtain ⟨-, t, ht, hlook, -⟩ := addWritesSumAndCarry .pop .pop s hw
    refine ⟨t, ht, (hlook .sp).trans (BitVec.add_assoc s.sp 1 1), fun x => ?_⟩
    simpa [placeOf, valueOf, eq_comm] using hlook (.mem x)
  · obtain ⟨t, ht, hlook, -⟩ := exec_set_pop_spec .peek s hw
    refine ⟨t, ht, hlook .sp, fun x => ?_⟩
    by_cases hx : s.sp = x
    · simpa [placeOf, hx] using hlook (.mem x)
    · simpa [placeOf, hx] using hlook (.mem x)

/-- Settles O44: the pop resolves the cell that the push stored to, since only the push has moved SP between them. -/
theorem pushThenPopRoundTrips : Obligations.PushThenPopRoundTrips := by
  intro r q s hw
  obtain ⟨-, t, ht, hpush, -⟩ := setCopiesSource .push (.reg r) s hw
  obtain ⟨u, hu, hpop, -⟩ := exec_set_pop_spec (.reg q) t (exec_wf hw ht)
  have hsp : t.sp = s.sp - 1 := hpush .sp
  have hcell : t.readMem (s.sp - 1) = s.reg r := (hpush (.mem (s.sp - 1))).trans (if_pos rfl)
  have hq : u.reg q = t.readMem t.sp := (hpop (.reg q)).trans (if_pos rfl)
  have husp : u.sp = t.sp + 1 := hpop .sp
  refine ⟨t, u, ht, hu, hsp, hcell, ?_, ?_⟩
  · rw [hq, hsp, hcell]
  · rw [husp, hsp, BitVec.sub_add_cancel]

/-- Settles O45: the pop reads the return address that the call left at SP. -/
theorem callThenReturn : Obligations.CallThenReturn := by
  intro a s t hw h
  have hcalls := calls_of_exec_jsr hw h
  obtain ⟨u, hu, hpop, hskip⟩ := exec_set_pop_spec .pc t (exec_wf hw h)
  have hpc : u.pc = t.readMem t.sp := hpop .pc
  have hsp : u.sp = t.sp + 1 := hpop .sp
  refine ⟨u, hu, hpc.trans hcalls.readMem_sp, ?_, ?_, (hpop .o).trans hcalls.o, hskip.trans hcalls.skip⟩
  · rw [hsp, hcalls.sp, word_add_ffff, BitVec.sub_add_cancel]
  · exact State.regs_eq_of_reg_eq fun r => (hpop (.reg r)).trans (hcalls.reg r)

/-! ## The parameters (00_scope.md section 4) -/

/-- `writeResultAndO` with destination O: the side value stays where it lands last, else the result. -/
theorem writeResultAndO_dest_o {i : Instr} {b : Operand} (hops : i.operands = [.o, b]) (p : Config.Params)
    (f g : Word → Word → Word) (s : State) :
    (p.destOOrder = .resultThenO →
      (writeResultAndO p f g .o b s).o = g s.o (valueOf b s (pcAfter i s) (spAfter .o b s))) ∧
    (p.destOOrder = .oThenResult →
      (writeResultAndO p f g .o b s).o = f s.o (valueOf b s (pcAfter i s) (spAfter .o b s))) := by
  have ha := prepareBasic_read i .o b .o s hops
  have hb := prepareBasic_read i .o b b s hops
  constructor
  all_goals
    intro hp
    simp only [writeResultAndO, hp, ha, hb]
    rfl

/-- Settles O38, for each of the six instructions. -/
theorem destinationOAtEveryOrder : Obligations.DestinationOAtEveryOrder := by
  intro e he p b s
  simp only [List.mem_cons, List.not_mem_nil, or_false] at he
  obtain rfl | rfl | rfl | rfl | rfl | rfl := he
  all_goals exact ⟨_, rfl, writeResultAndO_dest_o rfl p _ _ s⟩

/-- The machine at given parameters is the machine at the defaults for the default parameters. -/
theorem execWith_params (i : Instr) (s : State) : execWith params i s = exec i s := by
  cases i <;> rfl

theorem stepWith_params (s : State) : stepWith params s = step s := by
  simp only [stepWith, step, execWith_params]

/-- Settles O39. -/
theorem machineIsDefaultInstance : Obligations.MachineIsDefaultInstance :=
  ⟨rfl, execWith_params, stepWith_params⟩

end Sys2Proof.Machine
end

section
/-! PROOFS. Fetch and step (40_fetch_decode_step.md, 60_exceptions.md): the step runs what the words at PC decode to, passes
over what it skips, and is Fatal exactly on an illegal word; how the host places an instruction, and what it reads and
writes (70_reset_and_hazards.md). -/

namespace Sys2Proof.Machine

/-! ## The fetched instruction -/

theorem fetch_eq (s : State) :
    fetch s = decodeTriple (s.readMem s.pc) (s.readMem (s.pc + 1)) (s.readMem (s.pc + 2)) := rfl

theorem fetch_firstWord (s : State) : (fetch s).firstWord = s.readMem s.pc := decodeTriple_firstWord _ _ _

theorem fetch_length (s : State) : (fetch s).length = wordLength (s.readMem s.pc) := decodeTriple_length _ _ _

theorem illegalWord_iff (w : Word) : illegalWord w = true ↔ opcodeField w = 0 ∧ middleField w ≠ 0x01 := by
  simp [illegalWord]

/-- The fetched instruction is an unknown opcode exactly if the word at PC is illegal (30_encoding.md R62). -/
theorem shapeOf_fetch_unknown_iff (s : State) :
    shapeOf (fetch s) = .unknown ↔ illegalWord (s.readMem s.pc) = true :=
  (shapeOf_decodeTriple_unknown_iff _ _ _).trans (illegalWord_iff _).symm

/-! ## Fatal -/

theorem exec_of_unknown {i : Instr} (h : shapeOf i = .unknown) (s : State) :
    exec i s = .fault (.unknownOpcode s.pc i.firstWord) := by
  obtain ⟨_, _, _, hs, -⟩ | ⟨_, _, _, _, hs, -⟩ | ⟨_, _, _, hs, -⟩ | ⟨a, rfl, -⟩ | ⟨-, he⟩ := exec_cases i s
  · exact absurd (hs.symm.trans h) (by decide)
  · exact absurd (hs.symm.trans h) (by decide)
  · exact absurd (hs.symm.trans h) (by decide)
  · exact absurd h (by simp [shapeOf])
  · exact he

theorem exec_of_known {i : Instr} (h : shapeOf i ≠ .unknown) (s : State) : ∃ t, exec i s = .next t := by
  obtain ⟨_, _, _, -, -, he⟩ | ⟨_, _, _, _, -, -, he⟩ | ⟨_, _, _, -, -, he⟩ | ⟨_, -, he⟩ | ⟨hs, -⟩ := exec_cases i s
  · exact ⟨_, he⟩
  · exact ⟨_, he⟩
  · exact ⟨_, he⟩
  · exact ⟨_, he⟩
  · exact absurd hs h

theorem fatalNext_iff (s : State) :
    s.fatalNext = true ↔ s.skip = false ∧ illegalWord (s.readMem s.pc) = true := by
  rw [State.fatalNext, Bool.and_eq_true, Bool.not_eq_true']

/-- A step is Fatal on an illegal word that it does not skip. -/
theorem step_of_fatalNext {s : State} (h : s.fatalNext = true) :
    step s = .fault (.unknownOpcode s.pc (s.readMem s.pc)) := by
  obtain ⟨hskip, hillegal⟩ := (fatalNext_iff s).mp h
  rw [step_of_skip_false hskip, exec_of_unknown ((shapeOf_fetch_unknown_iff s).mpr hillegal), fetch_firstWord]

theorem step_of_not_fatalNext {s : State} (h : s.fatalNext = false) : ∃ t, step s = .next t := by
  cases hskip : s.skip with
  | true => exact ⟨_, step_of_skip_true hskip⟩
  | false =>
    rw [step_of_skip_false hskip]
    refine exec_of_known (fun hs => ?_) s
    rw [(fatalNext_iff s).mpr ⟨hskip, (shapeOf_fetch_unknown_iff s).mp hs⟩] at h
    cases h

/-- Settles O15. -/
theorem fatalExactlyOnIllegalWord : Obligations.FatalExactlyOnIllegalWord :=
  fun _ => ⟨step_of_fatalNext, step_of_not_fatalNext⟩

/-- Settles O16: a step command answers Fatal only where the next step is one, and then hands back the state it was given. -/
theorem fatalChangesNothing : Obligations.FatalChangesNothing := by
  intro s t pc w h
  cases hf : s.fatalNext with
  | false =>
    obtain ⟨u, hu⟩ := step_of_not_fatalNext hf
    simp [obey, hu] at h
  | true =>
    simp only [obey, step_of_fatalNext hf, Prod.mk.injEq, Response.fatal.injEq] at h
    obtain ⟨rfl, rfl, rfl⟩ := h
    exact ⟨rfl, rfl, rfl, (fatalNext_iff _).mp hf⟩

/-- JSR's opcode is not listed. -/
theorem unknownOpcodes_ne_jsr : ∀ e ∈ unknownOpcodes, e.1 ≠ 0x01 := by decide

/-- Each listed constructor is what its extended opcode selects. -/
theorem unknownOpcodes_eq_decodeExtended : ∀ e ∈ unknownOpcodes, ∀ a, e.2 a = decodeExtended e.1 a := by
  simp only [unknownOpcodes, List.forall_mem_cons, List.not_mem_nil, false_imp_iff, implies_true, and_true]
  and_intros
  all_goals exact fun _ => rfl

/-- Settles O17: an extended opcode other than JSR's selects an instruction of unknown shape. -/
theorem unknownOpcodesAreFatal : Obligations.UnknownOpcodesAreFatal := by
  intro e he a s
  have hsel := unknownOpcodes_eq_decodeExtended e he a
  have hshape : shapeOf (e.2 a) = .unknown := by
    rw [hsel, shapeOf_decodeExtended, if_neg (unknownOpcodes_ne_jsr e he)]
  rw [exec_of_unknown hshape, hsel, (decodeExtended_spec e.1 a).1]

/-! ## What a step runs -/

/-- Settles O18. -/
theorem skippedInstructionOnlyAdvances : Obligations.SkippedInstructionOnlyAdvances := by
  intro s hskip
  rw [step_of_skip_true hskip, passOver, State.nextPc_eq, fetch_length]

/-- Settles O12: the words that decode are the ones the step fetches. -/
theorem stepRunsDecodedInstruction : Obligations.StepRunsDecodedInstruction := by
  intro s i rest h
  rw [decode_three, ← fetch_eq] at h
  cases h
  exact ⟨step_of_skip_false, step_of_skip_true⟩

/-! ## Placing an instruction (log 14) -/

@[simp] theorem State.setSkip_look (s : State) (b : Bool) (p : Place) : (s.setSkip b).look p = s.look p := by
  cases p <;> rfl

theorem placeAtPc_look_of_ne_mem (ws : List Word) (s : State) (p : Place) (hp : ∀ b, p ≠ .mem b) :
    (placeAtPc ws s).look p = s.look p := by
  rw [placeAtPc, State.setSkip_look, State.writeWords_look_of_ne_mem ws s s.pc p hp]

/-- A cell after three words have been placed at PC, by its distance from PC. -/
theorem placeAtPc_readMem (w k₁ k₂ : Word) (s : State) (hw : s.wf = true) (b : Word) :
    (placeAtPc [w, k₁, k₂] s).readMem b = [w, k₁, k₂][(b - s.pc).toNat]?.getD (s.readMem b) :=
  State.writeWords_readMem [w, k₁, k₂] s s.pc b hw (by simp [Config.memWords])

/-- Three words placed at PC are the ones the next step fetches. -/
theorem fetch_placeAtPc (w k₁ k₂ : Word) (s : State) (hw : s.wf = true) :
    fetch (placeAtPc [w, k₁, k₂] s) = decodeTriple w k₁ k₂ := by
  have hpc : (placeAtPc [w, k₁, k₂] s).pc = s.pc := placeAtPc_look_of_ne_mem _ s .pc nofun
  rw [fetch_eq, hpc, placeAtPc_readMem w k₁ k₂ s hw, placeAtPc_readMem w k₁ k₂ s hw, placeAtPc_readMem w k₁ k₂ s hw,
    sub_self, add_sub_cancel_left, add_sub_cancel_left]
  rfl

/-- Placing three words at PC touches three cells and the skip flag. -/
theorem placeAtPc_look (w k₁ k₂ : Word) (s : State) (hw : s.wf = true) (p : Place) (h₀ : p ≠ .mem s.pc)
    (h₁ : p ≠ .mem (s.pc + 1)) (h₂ : p ≠ .mem (s.pc + 2)) : (placeAtPc [w, k₁, k₂] s).look p = s.look p := by
  cases p with
  | reg _ | pc | sp | o => exact placeAtPc_look_of_ne_mem _ s _ nofun
  | mem b =>
    simp only [ne_eq, Place.mem.injEq] at h₀ h₁ h₂
    have hpast : 3 ≤ (b - s.pc).toNat := by bv_omega
    rw [State.look_mem, placeAtPc_readMem w k₁ k₂ s hw, List.getElem?_eq_none hpast]
    rfl

/-- Settles O13. -/
theorem placedInstructionIsRun : Obligations.PlacedInstructionIsRun := by
  intro s nbits w i hw h
  obtain ⟨w₀, k₁, k₂, hwords⟩ : ∃ w₀ k₁ k₂, tableWords nbits w = [w₀, k₁, k₂] := ⟨_, _, _, rfl⟩
  rw [decodeTableWord, hwords, decode_three] at h
  rw [State.withFetchWord, hwords]
  have hfetch := fetch_placeAtPc w₀ k₁ k₂ s hw
  rw [Option.some.inj h] at hfetch
  refine ⟨?_, rfl, placeAtPc_look w₀ k₁ k₂ s hw⟩
  rw [step_of_skip_false rfl, hfetch]

/-! ## A store into the instruction stream -/

/-- Settles O55: PC is past the three words, at the cell that has just been written, and the two cells after it are as
before. -/
theorem storeIsFetchedNext : Obligations.StoreIsFetchedNext := by
  intro s v hw
  obtain ⟨-, t, ht, hlook, -⟩ := setCopiesSource (.nw (s.pc + 3)) (.lit v) s hw
  have hpc : t.pc = s.pc + 3 := hlook .pc
  have hread (x : Word) : t.readMem x = if s.pc + 3 = x then v else s.readMem x := by
    simpa [placeOf, valueOf] using hlook (.mem x)
  refine ⟨t, ht, ?_⟩
  rw [fetch_eq, hpc, hread, hread, hread, if_pos rfl, if_neg (by bv_omega), if_neg (by bv_omega)]
  congr 2 <;> bv_omega

/-! ## Host reads and writes -/

@[simp] theorem State.put_skip (s : State) (p : Place) (v : Word) : (s.put p v).skip = s.skip := by
  cases p <;> rfl

/-- Settles O54. -/
theorem hostReadsWhatItWrote : Obligations.HostReadsWhatItWrote := by
  intro p q v s hw
  refine ⟨?_, ?_, fun b => ⟨rfl, ?_⟩, rfl, fun _ => rfl⟩
  · exact congrArg Response.word (State.put_look s p q v hw)
  · exact congrArg Response.flag (State.put_skip s p v)
  · exact congrArg Response.word (State.setSkip_look s b q)

end Sys2Proof.Machine
end

section
/-! PROOFS. What every performed instruction leaves unchanged: one frame lemma for the instructions with two operands, and
from it the statements about SP, PC, O, the skip flag, general registers and memory. -/

namespace Sys2Proof.Machine

/-! ## The destination -/

theorem destinationOf_of_result {i : Instr} {a b : Operand} (hshape : shapeOf i = .result)
    (hops : i.operands = [a, b]) (s : State) : destinationOf i s = placeOf a s := by
  simp only [destinationOf, hshape, hops]

theorem destinationOf_of_resultAndO {i : Instr} {a b : Operand} (hshape : shapeOf i = .resultAndO)
    (hops : i.operands = [a, b]) (s : State) : destinationOf i s = placeOf a s := by
  simp only [destinationOf, hshape, hops]

theorem destinationOf_jsr (a : Operand) (s : State) :
    destinationOf (.jsr a) s = some (.mem (spMove a s.sp - 1)) := rfl

/-! ## The frame of a write -/

theorem State.setO_look_of_ne (s : State) (v : Word) {p : Place} (hp : p ≠ .o) : (s.setO v).look p = s.look p := by
  cases p with
  | o => exact absurd rfl hp
  | reg _ | pc | sp | mem _ => rfl

/-- A write through an accessor leaves every place but the one it names. Of a memory cell this rests on the canonical form;
of a register it does not. -/
theorem Accessor.write_look_of_ne (acc : Accessor) (v : Word) (s : State) {p : Place}
    (hread : s.wf = true ∨ ∀ x, p ≠ .mem x) (hp : accessorPlace acc ≠ some p) : (acc.write v s).look p = s.look p := by
  obtain hw | hmem := hread
  · rw [Accessor.write_look acc v s p hw, if_neg hp]
  · cases acc with
    | lit k => rfl
    | mem x => exact State.writeMem_look_of_ne_mem s x v p hmem
    | reg r =>
      cases p with
      | reg q =>
        have hqr : q ≠ r := fun h => hp (by rw [h]; rfl)
        rw [State.look_reg, Accessor.write, State.setReg_reg, if_neg hqr]
        rfl
      | pc | sp | o | mem _ => rfl
    | sp =>
      cases p with
      | sp => exact absurd rfl hp
      | reg _ | pc | o | mem _ => rfl
    | pc =>
      cases p with
      | pc => exact absurd rfl hp
      | reg _ | sp | o | mem _ => rfl
    | o =>
      cases p with
      | o => exact absurd rfl hp
      | reg _ | pc | sp | mem _ => rfl

/-- A place that names nothing is a literal's: the write is discarded (41_operand_resolver.md R93). -/
theorem resolve_write_of_literal {a : Operand} {s : State} (ha : placeOf a s = none) (v : Word) (t : State) :
    (resolve a s).acc.write v t = t := by
  cases a with
  | lit _ | small _ => rfl
  | reg _ | ind _ | indOff _ _ | pop | peek | push | sp | pc | o | nw _ => cases ha

/-! ## The frame of an instruction with two operands -/

/-- The next state of an instruction with two operands is that of one of the three operations on them. -/
theorem exec_next_cases_of_two {i : Instr} {a b : Operand} {s t : State} (hops : i.operands = [a, b])
    (h : exec i s = .next t) :
    (∃ f, shapeOf i = .result ∧ t = writeResult f a b s) ∨
    (∃ f g, shapeOf i = .resultAndO ∧ t = writeResultAndO params f g a b s) ∨
    (∃ c, shapeOf i = .test ∧ t = testOperands c a b s) := by
  have hsame {a' b' : Operand} (hops' : i.operands = [a', b']) : a' = a ∧ b' = b := by
    simpa using hops'.symm.trans hops
  obtain ⟨f, a', b', hs, hops', ht⟩ | ⟨f, g, a', b', hs, hops', ht⟩ | ⟨c, a', b', hs, hops', ht⟩ | ⟨a', rfl, -⟩ :=
    exec_next_cases h
  · obtain ⟨rfl, rfl⟩ := hsame hops'
    exact .inl ⟨f, hs, ht⟩
  · obtain ⟨rfl, rfl⟩ := hsame hops'
    exact .inr (.inl ⟨f, g, hs, ht⟩)
  · obtain ⟨rfl, rfl⟩ := hsame hops'
    exact .inr (.inr ⟨c, hs, ht⟩)
  · cases hops

/-- A performed instruction with two operands leaves every place but its destination, and but O where it writes O, as
stages 5 and 6 left it. -/
theorem exec_look_of_ne_destination {i : Instr} {a b : Operand} {s t : State} {p : Place} (hops : i.operands = [a, b])
    (h : exec i s = .next t) (hread : s.wf = true ∨ ∀ x, p ≠ .mem x) (hdest : destinationOf i s ≠ some p)
    (ho : p = .o → shapeOf i ≠ .resultAndO) : t.look p = (prepareBasic a b s).look p := by
  have hread' : (prepareBasic a b s).wf = true ∨ ∀ x, p ≠ .mem x := by rwa [prepareBasic_wf]
  obtain ⟨f, hshape, rfl⟩ | ⟨f, g, hshape, rfl⟩ | ⟨c, hshape, rfl⟩ := exec_next_cases_of_two hops h
  · rw [destinationOf_of_result hshape hops] at hdest
    exact Accessor.write_look_of_ne _ _ _ hread' (by rwa [resolve_place])
  · rw [destinationOf_of_resultAndO hshape hops] at hdest
    rw [writeResultAndO, params, Config.specDefault]
    dsimp only
    rw [State.setO_look_of_ne _ _ fun hp => ho hp hshape]
    exact Accessor.write_look_of_ne _ _ _ hread' (by rwa [resolve_place])
  · exact State.setSkip_look _ _ p

/-- A performed instruction that is not JSR has two operands. -/
theorem exec_next_operands {i : Instr} {s t : State} (h : exec i s = .next t) :
    (∃ a b, i.operands = [a, b]) ∨ ∃ a, i = .jsr a := by
  obtain ⟨_, a, b, -, hops, -⟩ | ⟨_, _, a, b, -, hops, -⟩ | ⟨_, a, b, -, hops, -⟩ | ⟨a, hi, -⟩ := exec_next_cases h
  · exact .inl ⟨a, b, hops⟩
  · exact .inl ⟨a, b, hops⟩
  · exact .inl ⟨a, b, hops⟩
  · exact .inr ⟨a, hi⟩

/-! ## JSR's frame that needs no canonical form -/

/-- JSR leaves SP one below where its operand's pre-effect put it. -/
theorem exec_jsr_sp {a : Operand} {s t : State} (h : exec (.jsr a) s = .next t) : t.sp = spMove a s.sp - 1 := by
  obtain rfl := Host.Outcome.next.inj h
  rw [prepareExtended_eq]
  exact word_add_ffff _

/-- JSR touches neither O nor the skip flag. -/
theorem exec_jsr_o_skip {a : Operand} {s t : State} (h : exec (.jsr a) s = .next t) :
    t.o = s.o ∧ t.skip = s.skip := by
  obtain rfl := Host.Outcome.next.inj h
  rw [prepareExtended_eq]
  exact ⟨rfl, rfl⟩

/-- Settles O19: the registers of the resolver by cases, and SP from the frame of the instructions. -/
theorem preEffectsFireOncePerOperand : Obligations.PreEffectsFireOncePerOperand := by
  refine ⟨fun s => ⟨rfl, rfl, rfl⟩, fun op s => ?_, fun i a b s t hops h hdest => ?_,
    fun a s t h => exec_jsr_sp h, fun s t hskip h => ?_⟩
  · cases op <;> rfl
  · have hsp := exec_look_of_ne_destination (p := .sp) hops h (.inr nofun) hdest nofun
    rw [prepareBasic_look i a b s hops] at hsp
    exact hsp
  · rw [step_of_skip_true hskip] at h
    cases h
    rfl

/-- Settles O48: O is neither PC nor SP, so stages 5 and 6 leave it. -/
theorem overflowRegisterOnlyWrittenBySix : Obligations.OverflowRegisterOnlyWrittenBySix := by
  intro i s t h hshape hdest
  obtain ⟨a, b, hops⟩ | ⟨a, rfl⟩ := exec_next_operands h
  · have ho := exec_look_of_ne_destination (p := .o) hops h (.inr nofun) hdest fun _ => hshape
    rw [prepareBasic_look i a b s hops] at ho
    exact ho
  · exact (exec_jsr_o_skip h).1

/-- Settles O50: stage 5 has put PC past the instruction, and nothing but a destination PC moves it again. -/
theorem pcAdvancesPastInstruction : Obligations.PcAdvancesPastInstruction := by
  intro i s t h hshape hdest
  obtain ⟨a, b, hops⟩ | ⟨a, rfl⟩ := exec_next_operands h
  · have hpc := exec_look_of_ne_destination (p := .pc) hops h (.inr nofun) hdest nofun
    rw [prepareBasic_look i a b s hops] at hpc
    exact hpc
  · exact absurd rfl hshape

/-- A performed instruction leaves every general register and every memory cell but its destination. -/
theorem exec_look_of_ne_destination_of_wf {i : Instr} {s t : State} {p : Place} (hw : s.wf = true)
    (h : exec i s = .next t) (hdest : destinationOf i s ≠ some p) (hpc : p ≠ .pc) (hsp : p ≠ .sp) (ho : p ≠ .o) :
    t.look p = s.look p := by
  obtain ⟨a, b, hops⟩ | ⟨a, rfl⟩ := exec_next_operands h
  · rw [exec_look_of_ne_destination hops h (.inl hw) hdest fun hp => absurd hp ho, prepareBasic_look i a b s hops,
      if_neg hpc, if_neg hsp]
  · have hcell : p ≠ .mem (spMove a s.sp + 0xFFFF) := by
      rw [word_add_ffff]
      exact fun hp => hdest (by rw [destinationOf_jsr, hp])
    rw [(calls_of_exec_jsr hw h).1 p, if_neg hpc, if_neg hsp, if_neg hcell]

/-- Settles O49. -/
theorem instructionsWriteOnlyTheirDestination : Obligations.InstructionsWriteOnlyTheirDestination :=
  fun _ _ _ hw h =>
    ⟨fun r hr => exec_look_of_ne_destination_of_wf (p := .reg r) hw h hr nofun nofun nofun,
      fun x hx => exec_look_of_ne_destination_of_wf (p := .mem x) hw h hx nofun nofun nofun⟩

/-! ## Literal destinations and the skip flag -/

@[simp] theorem prepareBasic_regs (a b : Operand) (s : State) : (prepareBasic a b s).regs = s.regs := by
  rw [prepareBasic_eq]; rfl

@[simp] theorem prepareBasic_mem (a b : Operand) (s : State) : (prepareBasic a b s).mem = s.mem := by
  rw [prepareBasic_eq]; rfl

@[simp] theorem prepareBasic_sp (a b : Operand) (s : State) : (prepareBasic a b s).sp = spAfter a b s := by
  rw [prepareBasic_eq]; rfl

@[simp] theorem prepareBasic_o (a b : Operand) (s : State) : (prepareBasic a b s).o = s.o := by
  rw [prepareBasic_eq]; rfl

theorem prepareBasic_pc {i : Instr} {a b : Operand} (hops : i.operands = [a, b]) (s : State) :
    (prepareBasic a b s).pc = pcAfter i s := by
  rw [prepareBasic_eq, pcAfter_two i a b s hops]; rfl

/-- Settles O42: with the write discarded, only stages 5 and 6, O and the skip flag are left. -/
theorem literalDestinationDiscards : Obligations.LiteralDestinationDiscards := by
  intro i a b s t hops ha h
  have hpc := prepareBasic_pc hops s
  obtain ⟨f, hshape, rfl⟩ | ⟨f, g, hshape, rfl⟩ | ⟨c, hshape, rfl⟩ := exec_next_cases_of_two hops h
  · simp [writeResult, resolve_write_of_literal ha, hpc]
  · simp [writeResultAndO, params, Config.specDefault, resolve_write_of_literal ha, hpc, hshape]
  · simp [testOperands, hpc, hshape]

@[simp] theorem writeResult_skip (f : Word → Word → Word) (a b : Operand) (s : State) :
    (writeResult f a b s).skip = s.skip := by
  simp [writeResult]

@[simp] theorem writeResultAndO_skip (f g : Word → Word → Word) (a b : Operand) (s : State) :
    (writeResultAndO params f g a b s).skip = s.skip := by
  simp [writeResultAndO, params, Config.specDefault]

/-- Only a conditional writes the skip flag. -/
theorem exec_skip {i : Instr} {s t : State} (h : exec i s = .next t) (hshape : shapeOf i ≠ .test) :
    t.skip = s.skip := by
  obtain ⟨f, a, b, -, -, rfl⟩ | ⟨f, g, a, b, -, -, rfl⟩ | ⟨c, a, b, htest, -, -⟩ | ⟨a, rfl, -⟩ := exec_next_cases h
  · exact writeResult_skip f a b s
  · exact writeResultAndO_skip f g a b s
  · exact absurd htest hshape
  · exact (exec_jsr_o_skip h).2

/-- Settles O47: a skipping step clears the flag, and a performed instruction that is no conditional keeps it. -/
theorem skipFlagOnlySetByConditionals : Obligations.SkipFlagOnlySetByConditionals := by
  have hexec (i : Instr) (s t : State) (h : exec i s = .next t) (hs : s.skip = false) (ht : t.skip = true) :
      shapeOf i = .test := by
    by_contra hshape
    simp [exec_skip h hshape, hs] at ht
  refine ⟨hexec, fun s t h ht => ?_⟩
  cases hs : s.skip with
  | true =>
    rw [step_of_skip_true hs] at h
    cases h
    cases ht
  | false =>
    rw [step_of_skip_false hs] at h
    exact ⟨rfl, hexec _ s t h hs ht⟩

end Sys2Proof.Machine
end

section
/-! PROOFS. The two independent readings of the instruction stream held against the machine: the spec's pseudocode on raw
operand codes and a next-word pointer (40_fetch_decode_step.md R70, 41_operand_resolver.md section 3), and the disassembler
(45_disassembler.md). Both walk the codes by themselves, so each needs one lemma for an operand code and one for an
instruction word. -/

namespace Sys2Proof.Machine

/-! ## The next-word pointer -/

/-- The address of the first word that operand a leaves is that of b's extra word. -/
theorem read_after_extra (m : Memory) (addr : Word) (a : Operand) :
    m.read (addr + 1 + BitVec.ofNat 16 a.extra) = if a.extra = 0 then m.read (addr + 1) else m.read (addr + 2) := by
  have hle := a.extra_le_one
  generalize a.extra = n at *
  interval_cases n
  · simp
  · rw [if_neg (by decide), BitVec.add_assoc]
    rfl

theorem nextWord_one (addr : Word) (n : Nat) :
    addr + 1 + BitVec.ofNat 16 n = addr + BitVec.ofNat 16 (1 + n) := by
  rw [BitVec.ofNat_add, ← BitVec.add_assoc]
  rfl

theorem nextWord_two (addr : Word) (n m : Nat) :
    addr + 1 + BitVec.ofNat 16 n + BitVec.ofNat 16 m = addr + BitVec.ofNat 16 (1 + n + m) := by
  rw [nextWord_one, BitVec.ofNat_add _ m, ← BitVec.add_assoc]

/-! ## Operand codes -/

/-- The accessor and the pre-effect that the table gives a code are those of the decoded operand. -/
theorem resolveCode_resolve (c : BitVec 6) (nw : Word) (s : State) :
    (resolveCode c nw s).1 = (resolve (decodeOperand c (s.readMem nw)) s).acc ∧
      (resolveCode c nw s).2.1 = (resolve (decodeOperand c (s.readMem nw)) s).pre := by
  obtain ⟨⟨n, hn⟩⟩ := c
  have hn : n < 64 := hn
  interval_cases n <;> exact ⟨rfl, rfl⟩

/-- The table advances the pointer for the codes that consume an extra word. -/
theorem resolveCode_nextWord (c : BitVec 6) (nw : Word) (s : State) :
    (resolveCode c nw s).2.2 = nw + BitVec.ofNat 16 (codeExtra c) := by
  obtain ⟨⟨n, hn⟩⟩ := c
  have hn : n < 64 := hn
  interval_cases n <;> simp [resolveCode, codeExtra]

/-- Settles O20, component by component over the 64 codes. -/
theorem resolverMatchesTable : Obligations.ResolverMatchesTable := by
  intro c nw s
  obtain ⟨hacc, hpre⟩ := resolveCode_resolve c nw s
  rw [decodeOperand_extra, ← resolveCode_nextWord c nw s, ← hacc, ← hpre]

/-! ## The executor of the pseudocode -/

theorem subResult_eq_toWord (va vb : Word) : subResult va vb = toWord (va.toNat + 65536 - vb.toNat) := by
  apply BitVec.eq_of_toNat_eq
  rw [subResult, toWord_toNat]
  bv_omega

theorem addO_eq_toWord (va vb : Word) :
    addO va vb = toWord (if va.toNat + vb.toNat ≥ 65536 then 1 else 0) := by
  rw [addO]
  split <;> rfl

theorem subO_eq_toWord (va vb : Word) : subO va vb = toWord (if va.toNat < vb.toNat then 0xFFFF else 0) := by
  rw [subO]
  split <;> rfl

theorem modResult_eq_toWord (va vb : Word) :
    modResult va vb = toWord (if vb.toNat = 0 then 0 else va.toNat % vb.toNat) := by
  rw [modResult]
  split <;> rfl

theorem toWord_word_toNat (v : Word) : toWord v.toNat = v := BitVec.ofNat_toNat 16 v |>.trans (BitVec.setWidth_eq v)

theorem andResult_eq_toWord (va vb : Word) : andResult va vb = toWord (va.toNat &&& vb.toNat) :=
  (toWord_word_toNat (va &&& vb)).symm.trans (congrArg toWord (BitVec.toNat_and va vb))

theorem borResult_eq_toWord (va vb : Word) : borResult va vb = toWord (va.toNat ||| vb.toNat) :=
  (toWord_word_toNat (va ||| vb)).symm.trans (congrArg toWord (BitVec.toNat_or va vb))

theorem xorResult_eq_toWord (va vb : Word) : xorResult va vb = toWord (va.toNat ^^^ vb.toNat) :=
  (toWord_word_toNat (va ^^^ vb)).symm.trans (congrArg toWord (BitVec.toNat_xor va vb))

theorem ifeCondition_eq (va vb : Word) : ifeCondition va vb = decide (va.toNat = vb.toNat) := by
  rw [Bool.eq_iff_iff, ifeCondition_iff, decide_eq_true_iff, BitVec.toNat_inj]

theorem ifnCondition_eq (va vb : Word) : ifnCondition va vb = decide (va.toNat ≠ vb.toNat) := by
  rw [Bool.eq_iff_iff, ifnCondition_iff, decide_eq_true_iff, ne_eq, ne_eq, BitVec.toNat_inj]

theorem ifbCondition_eq (va vb : Word) : ifbCondition va vb = decide (va.toNat &&& vb.toNat ≠ 0) := by
  rw [Bool.eq_iff_iff, ifbCondition, bne_iff_ne, decide_eq_true_iff, ← BitVec.toNat_and, ne_eq, ne_eq,
    word_eq_zero_iff]

section
variable {f g : Word → Word → Word} {c : Word → Word → Bool} {a b : Operand} {s : State} {n m : Nat} {d : Bool}

/-- The pseudocode's one write is `writeResult`'s, if its number is the result. -/
theorem writeResult_eq_write
    (hf : f ((resolve a s).acc.read (prepareBasic a b s)) ((resolve b s).acc.read (prepareBasic a b s)) = toWord n) :
    writeResult f a b s = (resolve a s).acc.write (toWord n) (prepareBasic a b s) := by
  rw [writeResult, hf]

/-- The pseudocode's two writes are `writeResultAndO`'s, if its two numbers are the result and the side value. -/
theorem writeResultAndO_eq_referenceWriteO (p : Config.Params)
    (hf : f ((resolve a s).acc.read (prepareBasic a b s)) ((resolve b s).acc.read (prepareBasic a b s)) = toWord n)
    (hg : g ((resolve a s).acc.read (prepareBasic a b s)) ((resolve b s).acc.read (prepareBasic a b s)) = toWord m) :
    writeResultAndO p f g a b s = referenceWriteO p (resolve a s).acc n m (prepareBasic a b s) := by
  have hn : BitVec.ofNat 16 (n % 65536) = toWord n := toWord_mod n
  have hm : BitVec.ofNat 16 (m % 65536) = toWord m := toWord_mod m
  cases ho : p.destOOrder with
  | resultThenO => simp only [writeResultAndO, referenceWriteO, ho, hn, hm, hf, hg]
  | oThenResult => simp only [writeResultAndO, referenceWriteO, ho, hn, hm, hf, hg]

/-- The pseudocode's write of the skip flag is `testOperands`'s, if its condition is the test. -/
theorem testOperands_eq_setSkip
    (hc : c ((resolve a s).acc.read (prepareBasic a b s)) ((resolve b s).acc.read (prepareBasic a b s)) = d) :
    testOperands c a b s = (prepareBasic a b s).setSkip (!d) := by
  rw [testOperands, hc]

end

/-- DIV in the pseudocode branches on a zero divisor before it writes. -/
theorem writeResultAndO_div (p : Config.Params) (a b : Operand) (s : State) :
    writeResultAndO p divResult divO a b s =
      executeBasic p 5 (resolve a s).acc (resolve b s).acc (prepareBasic a b s) := by
  by_cases h : ((resolve b s).acc.read (prepareBasic a b s)).toNat = 0
  · refine (writeResultAndO_eq_referenceWriteO (n := 0) (m := 0) p (if_pos h) (if_pos h)).trans ?_
    exact (if_pos h).symm
  · refine (writeResultAndO_eq_referenceWriteO p (if_neg h) ?_).trans (if_neg h).symm
    rw [divO_eq, if_neg fun h0 => h ((word_eq_zero_iff _).mpr h0)]

/-- A performed basic instruction is the pseudocode's executor on its two accessors, after stages 5 and 6. -/
theorem execWith_decodeBasic (p : Config.Params) {o : BitVec 4} (ho : o ≠ 0) (a b : Operand) (s : State) :
    execWith p (decodeBasic o a b) s =
      .next (executeBasic p o (resolve a s).acc (resolve b s).acc (prepareBasic a b s)) := by
  obtain ⟨⟨n, hn⟩⟩ := o
  have hn : n < 16 := hn
  interval_cases n
  · exact absurd rfl ho
  · exact congrArg Host.Outcome.next (writeResult_eq_write (toWord_word_toNat _).symm)
  · exact congrArg Host.Outcome.next (writeResultAndO_eq_referenceWriteO p rfl (addO_eq_toWord _ _))
  · exact congrArg Host.Outcome.next
      (writeResultAndO_eq_referenceWriteO p (subResult_eq_toWord _ _) (subO_eq_toWord _ _))
  · exact congrArg Host.Outcome.next (writeResultAndO_eq_referenceWriteO p rfl (mulO_eq _ _))
  · exact congrArg Host.Outcome.next (writeResultAndO_div p a b s)
  · exact congrArg Host.Outcome.next (writeResult_eq_write (modResult_eq_toWord _ _))
  · exact congrArg Host.Outcome.next (writeResultAndO_eq_referenceWriteO p (shlResult_eq _ _) (shlO_eq _ _))
  · exact congrArg Host.Outcome.next (writeResultAndO_eq_referenceWriteO p (shrResult_eq _ _) (shrO_eq _ _))
  · exact congrArg Host.Outcome.next (writeResult_eq_write (andResult_eq_toWord _ _))
  · exact congrArg Host.Outcome.next (writeResult_eq_write (borResult_eq_toWord _ _))
  · exact congrArg Host.Outcome.next (writeResult_eq_write (xorResult_eq_toWord _ _))
  · exact congrArg Host.Outcome.next (testOperands_eq_setSkip (ifeCondition_eq _ _))
  · exact congrArg Host.Outcome.next (testOperands_eq_setSkip (ifnCondition_eq _ _))
  · exact congrArg Host.Outcome.next (testOperands_eq_setSkip rfl)
  · exact congrArg Host.Outcome.next (testOperands_eq_setSkip (ifbCondition_eq _ _))

/-- A performed extended instruction: JSR is the pseudocode's, every other opcode is Fatal. -/
theorem execWith_decodeExtended (p : Config.Params) (x : BitVec 6) (a : Operand) (s : State) :
    execWith p (decodeExtended x a) s =
      if x ≠ 0x01 then .fault (.unknownOpcode s.pc (extendedWord x a.code))
      else .next (executeJsr p (resolve a s).acc (prepareExtended a s)) := by
  obtain ⟨⟨n, hn⟩⟩ := x
  have hn : n < 64 := hn
  interval_cases n <;> rfl

/-! ## The stages of the step -/

/-- Stages 5 and 6 of a basic instruction, as the pseudocode writes them. -/
theorem prepareBasic_eq_stages (a b : Operand) (s : State) :
    prepareBasic a b s =
      firePreEffect (resolve b s).pre (firePreEffect (resolve a s).pre
        (s.setPc (s.pc + 1 + BitVec.ofNat 16 a.extra + BitVec.ofNat 16 b.extra))) := by
  rw [nextWord_two]
  rfl

theorem prepareExtended_eq_stages (a : Operand) (s : State) :
    prepareExtended a s = firePreEffect (resolve a s).pre (s.setPc (s.pc + 1 + BitVec.ofNat 16 a.extra)) := by
  rw [nextWord_one]
  rfl

/-- A basic word: both codes resolved with the pointer, then the skip, then stages 5 to 7. -/
theorem stepWith_of_basic (p : Config.Params) {s : State} (hw : opcodeField (s.readMem s.pc) ≠ 0) :
    stepWith p s = referenceStep p s := by
  obtain ⟨a, b, ha, hb, hi⟩ := decodeTriple_of_basic hw (s.readMem (s.pc + 1)) (s.readMem (s.pc + 2))
  have hb' : b = decodeOperand (upperField (s.readMem s.pc)) (s.readMem (s.pc + 1 + BitVec.ofNat 16 a.extra)) :=
    hb.trans (congrArg (decodeOperand _) (read_after_extra s.mem s.pc a).symm)
  have hfetch : fetch s = decodeBasic (opcodeField (s.readMem s.pc)) a b := hi
  have hlen := Instr.length_of_two (decodeBasic_operands a b hw)
  simp only [referenceStep, if_pos hw, resolverMatchesTable _ _ _, ← ha, ← hb']
  simp only [stepWith, skipping, hfetch, execWith_decodeBasic p hw, prepareBasic_eq_stages, passOver, State.nextPc_eq,
    hlen, nextWord_two]

theorem stepWith_of_extended (p : Config.Params) {s : State} (hw : opcodeField (s.readMem s.pc) = 0) :
    stepWith p s = referenceStep p s := by
  have hfetch := decodeTriple_of_extended hw (s.readMem (s.pc + 1)) (s.readMem (s.pc + 2))
  rw [← fetch_eq] at hfetch
  have hword : extendedWord (middleField (s.readMem s.pc))
      (decodeOperand (upperField (s.readMem s.pc)) (s.readMem (s.pc + 1))).code = s.readMem s.pc := by
    rw [decodeOperand_has_code, extendedWord_eq, ← hw, basicWord_fields]
  have hlen := Instr.length_of_one (decodeExtended_operands (middleField (s.readMem s.pc))
    (decodeOperand (upperField (s.readMem s.pc)) (s.readMem (s.pc + 1))))
  simp only [referenceStep, if_neg (not_not_intro hw), resolverMatchesTable _ _ _]
  simp only [stepWith, skipping, hfetch, execWith_decodeExtended, hword, prepareExtended_eq_stages, passOver,
    State.nextPc_eq, hlen, nextWord_one]

/-- Settles O14, by the format of the word at PC. -/
theorem stepFollowsPseudocode : Obligations.StepFollowsPseudocode := by
  have hstages (p : Config.Params) (s : State) : stepWith p s = referenceStep p s := by
    by_cases hw : opcodeField (s.readMem s.pc) = 0
    · exact stepWith_of_extended p hw
    · exact stepWith_of_basic p hw
  exact ⟨hstages, fun s => (stepWith_params s).symm.trans (hstages params s)⟩

/-! ## The disassembler -/

/-- The text that the disassembler gives an operand code is the decoded operand's. -/
theorem renderOperand_text (m : Memory) (c : BitVec 6) (nw : Word) :
    (renderOperand m c nw).1 = operandText (decodeOperand c (m.read nw)) := by
  obtain ⟨⟨n, hn⟩⟩ := c
  have hn : n < 64 := hn
  interval_cases n <;> rfl

theorem renderOperand_nextWord (m : Memory) (c : BitVec 6) (nw : Word) :
    (renderOperand m c nw).2 = nw + BitVec.ofNat 16 (codeExtra c) := by
  obtain ⟨⟨n, hn⟩⟩ := c
  have hn : n < 64 := hn
  interval_cases n <;> simp [renderOperand, codeExtra]

/-- An operand code rendered is the decoded operand's text and the address after its extra word. -/
theorem renderOperand_eq (m : Memory) (c : BitVec 6) (nw : Word) :
    renderOperand m c nw =
      (operandText (decodeOperand c (m.read nw)), nw + BitVec.ofNat 16 (decodeOperand c (m.read nw)).extra) := by
  rw [decodeOperand_extra, ← renderOperand_text, ← renderOperand_nextWord]

theorem instrText_decodeBasic (placeholder : String) {o : BitVec 4} (ho : o ≠ 0) (a b : Operand) :
    instrText placeholder (decodeBasic o a b) =
      basicMnemonic o ++ " " ++ operandText a ++ ", " ++ operandText b := by
  obtain ⟨⟨n, hn⟩⟩ := o
  have hn : n < 16 := hn
  interval_cases n
  · exact absurd rfl ho
  all_goals rfl

theorem instrText_decodeExtended (placeholder : String) (x : BitVec 6) (a : Operand) :
    instrText placeholder (decodeExtended x a) =
      if x = 0x01 then "JSR" ++ " " ++ operandText a else placeholder ++ " " ++ operandText a := by
  obtain ⟨⟨n, hn⟩⟩ := x
  have hn : n < 64 := hn
  interval_cases n <;> rfl

theorem disasmWith_of_basic (placeholder : String) {m : Memory} {addr : Word} (hw : opcodeField (m.read addr) ≠ 0) :
    disasmWith placeholder m addr =
      (instrText placeholder (instrAt m addr), addr + BitVec.ofNat 16 (instrAt m addr).length) := by
  obtain ⟨a, b, ha, hb, hi⟩ := decodeTriple_of_basic hw (m.read (addr + 1)) (m.read (addr + 2))
  rw [← read_after_extra] at hb
  have hinstr : instrAt m addr = decodeBasic (opcodeField (m.read addr)) a b := hi
  rw [hinstr, instrText_decodeBasic placeholder hw, Instr.length_of_two (decodeBasic_operands a b hw), ← nextWord_two]
  simp only [disasmWith, if_pos hw, renderOperand_eq, ← ha, ← hb]

theorem disasmWith_of_extended (placeholder : String) {m : Memory} {addr : Word} (hw : opcodeField (m.read addr) = 0) :
    disasmWith placeholder m addr =
      (instrText placeholder (instrAt m addr), addr + BitVec.ofNat 16 (instrAt m addr).length) := by
  have hinstr := decodeTriple_of_extended hw (m.read (addr + 1)) (m.read (addr + 2))
  rw [instrAt, hinstr, instrText_decodeExtended, Instr.length_of_one (decodeExtended_operands _ _), ← nextWord_one]
  simp only [disasmWith, if_neg (not_not_intro hw), renderOperand_eq]
  split <;> rfl

/-- Settles O51, by the format of the word. -/
theorem twoDecodersAgree : Obligations.TwoDecodersAgree := by
  intro placeholder m addr
  by_cases hw : opcodeField (m.read addr) = 0
  · exact disasmWith_of_extended placeholder hw
  · exact disasmWith_of_basic placeholder hw

/-- The disassembler's next address at PC is the address of the following instruction. -/
theorem disasm_next (s : State) : (disasm s.mem s.pc).2 = pcAfter (fetch s) s :=
  congrArg Prod.snd (twoDecodersAgree params.disasmPlaceholder s.mem s.pc)

theorem prepareExtended_pc {i : Instr} {a : Operand} (hops : i.operands = [a]) (s : State) :
    (prepareExtended a s).pc = pcAfter i s := by
  rw [prepareExtended_eq, pcAfter_one i a s hops]
  rfl

/-- An illegal word is disassembled with the placeholder (45_disassembler.md R158). -/
theorem disasm_of_illegalWord {m : Memory} {addr : Word} (h : illegalWord (m.read addr) = true) :
    ∃ operand, (disasm m addr).1 = params.disasmPlaceholder ++ " " ++ operand := by
  obtain ⟨hw, hx⟩ := (illegalWord_iff _).mp h
  refine ⟨(renderOperand m (upperField (m.read addr)) (addr + 1)).1, ?_⟩
  rw [disasm, disasmWith, if_neg (not_not_intro hw), if_neg hx]

/-- Settles O52: the disassembler's next address is PC past the fetched instruction, which is what every stage that
advances PC puts there. -/
theorem disassemblerAgreesWithStep : Obligations.DisassemblerAgreesWithStep := by
  intro s
  rw [disasm_next]
  refine ⟨fun hskip => ⟨_, step_of_skip_true hskip, rfl⟩, fun a b hops => prepareBasic_pc hops s,
    fun a hops => prepareExtended_pc hops s, fun t hskip h hshape hdest => ?_, fun hfatal => ?_⟩
  · rw [step_of_skip_false hskip] at h
    exact pcAdvancesPastInstruction _ s t h hshape hdest
  · obtain ⟨-, hillegal⟩ := (fatalNext_iff s).mp hfatal
    exact ⟨step_of_fatalNext hfatal, disasm_of_illegalWord hillegal⟩

end Sys2Proof.Machine
end
